-- ==== Sys2Proof/Word.lean ====
section
/-! DEFINITION. The widths of the HT48R51 (spec/00_scope.md R6): 8-bit data, 15-bit program words, 12-bit program
addresses, 14 option bits. -/

namespace Sys2Proof

/-- A data memory cell, an immediate `x`, or a data memory address `m` (00_scope.md R12). -/
abbrev Byte := BitVec 8

/-- A program memory word (30_encoding.md R83). -/
abbrev Word := BitVec 15

/-- A program memory address (10_state.md R20). -/
abbrev Addr := BitVec 12

end Sys2Proof
end

