-- ==== Sys2Proof/Syntax.lean ====
section
/-! DEFINITION. The 63 instructions (spec/opcode_table.json, in its order; operands: 00_scope.md R12, 30_encoding.md R84). -/

namespace Sys2Proof

/-- One constructor per row of the opcode table. `m` is a data memory address, `x` an immediate, `i` a bit number
(0 to 7, checked by `Instr.wellFormed`), `addr` a program memory address. -/
inductive Instr where
  /-- `ADD A,[m]`: R101. -/
  | addAM (m : Byte)
  /-- `ADDM A,[m]`: R102. -/
  | addmAM (m : Byte)
  /-- `ADD A,x`: R103. -/
  | addAX (x : Byte)
  /-- `ADC A,[m]`: R104. -/
  | adcAM (m : Byte)
  /-- `ADCM A,[m]`: R105. -/
  | adcmAM (m : Byte)
  /-- `SUB A,x`: R106. -/
  | subAX (x : Byte)
  /-- `SUB A,[m]`: R107. -/
  | subAM (m : Byte)
  /-- `SUBM A,[m]`: R108. -/
  | submAM (m : Byte)
  /-- `SBC A,[m]`: R109. -/
  | sbcAM (m : Byte)
  /-- `SBCM A,[m]`: R110. -/
  | sbcmAM (m : Byte)
  /-- `DAA [m]`: R111. -/
  | daaM (m : Byte)
  /-- `AND A,[m]`: R116. -/
  | andAM (m : Byte)
  /-- `OR A,[m]`: R117. -/
  | orAM (m : Byte)
  /-- `XOR A,[m]`: R118. -/
  | xorAM (m : Byte)
  /-- `ANDM A,[m]`: R119. -/
  | andmAM (m : Byte)
  /-- `ORM A,[m]`: R120. -/
  | ormAM (m : Byte)
  /-- `XORM A,[m]`: R121. -/
  | xormAM (m : Byte)
  /-- `AND A,x`: R122. -/
  | andAX (x : Byte)
  /-- `OR A,x`: R123. -/
  | orAX (x : Byte)
  /-- `XOR A,x`: R124. -/
  | xorAX (x : Byte)
  /-- `CPL [m]`: R125. -/
  | cplM (m : Byte)
  /-- `CPLA [m]`: R126. -/
  | cplaM (m : Byte)
  /-- `INCA [m]`: R131. -/
  | incaM (m : Byte)
  /-- `INC [m]`: R132. -/
  | incM (m : Byte)
  /-- `DECA [m]`: R133. -/
  | decaM (m : Byte)
  /-- `DEC [m]`: R134. -/
  | decM (m : Byte)
  /-- `RRA [m]`: R135. -/
  | rraM (m : Byte)
  /-- `RR [m]`: R136. -/
  | rrM (m : Byte)
  /-- `RRCA [m]`: R137. -/
  | rrcaM (m : Byte)
  /-- `RRC [m]`: R138. -/
  | rrcM (m : Byte)
  /-- `RLA [m]`: R139. -/
  | rlaM (m : Byte)
  /-- `RL [m]`: R140. -/
  | rlM (m : Byte)
  /-- `RLCA [m]`: R141. -/
  | rlcaM (m : Byte)
  /-- `RLC [m]`: R142. -/
  | rlcM (m : Byte)
  /-- `MOV A,[m]`: R146. -/
  | movAM (m : Byte)
  /-- `MOV [m],A`: R147. -/
  | movMA (m : Byte)
  /-- `MOV A,x`: R148. -/
  | movAX (x : Byte)
  /-- `CLR [m].i`: R149. -/
  | clrMI (m : Byte) (i : Nat)
  /-- `SET [m].i`: R150. -/
  | setMI (m : Byte) (i : Nat)
  /-- `JMP addr`: R156. -/
  | jmp (addr : Addr)
  /-- `SZ [m]`: R157. -/
  | szM (m : Byte)
  /-- `SZA [m]`: R158. -/
  | szaM (m : Byte)
  /-- `SZ [m].i`: R159. -/
  | szMI (m : Byte) (i : Nat)
  /-- `SNZ [m].i`: R160. -/
  | snzMI (m : Byte) (i : Nat)
  /-- `SIZ [m]`: R161. -/
  | sizM (m : Byte)
  /-- `SDZ [m]`: R162. -/
  | sdzM (m : Byte)
  /-- `SIZA [m]`: R163. -/
  | sizaM (m : Byte)
  /-- `SDZA [m]`: R164. -/
  | sdzaM (m : Byte)
  /-- `CALL addr`: R165. -/
  | call (addr : Addr)
  /-- `RET`: R166. -/
  | ret
  /-- `RET A,x`: R167. -/
  | retAX (x : Byte)
  /-- `RETI`: R168. -/
  | reti
  /-- `TABRDC [m]`: R171. -/
  | tabrdcM (m : Byte)
  /-- `TABRDL [m]`: R172. -/
  | tabrdlM (m : Byte)
  /-- `NOP`: R173. -/
  | nop
  /-- `CLR [m]`: R174. -/
  | clrM (m : Byte)
  /-- `SET [m]`: R175. -/
  | setM (m : Byte)
  /-- `CLR WDT`: R176. -/
  | clrWdt
  /-- `CLR WDT1`: R177. -/
  | clrWdt1
  /-- `CLR WDT2`: R178. -/
  | clrWdt2
  /-- `SWAP [m]`: R179. -/
  | swapM (m : Byte)
  /-- `SWAPA [m]`: R180. -/
  | swapaM (m : Byte)
  /-- `HALT`: R181. -/
  | halt
deriving DecidableEq, Repr

/-- The five instruction formats of SPEC-ENC (30_encoding.md R86). -/
inductive Format where
  | none
  | memory
  | immediate
  | bit
  | jump
deriving DecidableEq, Repr

/-- The operand shape of an instruction (30_encoding.md R84). -/
def Instr.format : Instr → Format
  | .addAM _ => .memory
  | .addmAM _ => .memory
  | .addAX _ => .immediate
  | .adcAM _ => .memory
  | .adcmAM _ => .memory
  | .subAX _ => .immediate
  | .subAM _ => .memory
  | .submAM _ => .memory
  | .sbcAM _ => .memory
  | .sbcmAM _ => .memory
  | .daaM _ => .memory
  | .andAM _ => .memory
  | .orAM _ => .memory
  | .xorAM _ => .memory
  | .andmAM _ => .memory
  | .ormAM _ => .memory
  | .xormAM _ => .memory
  | .andAX _ => .immediate
  | .orAX _ => .immediate
  | .xorAX _ => .immediate
  | .cplM _ => .memory
  | .cplaM _ => .memory
  | .incaM _ => .memory
  | .incM _ => .memory
  | .decaM _ => .memory
  | .decM _ => .memory
  | .rraM _ => .memory
  | .rrM _ => .memory
  | .rrcaM _ => .memory
  | .rrcM _ => .memory
  | .rlaM _ => .memory
  | .rlM _ => .memory
  | .rlcaM _ => .memory
  | .rlcM _ => .memory
  | .movAM _ => .memory
  | .movMA _ => .memory
  | .movAX _ => .immediate
  | .clrMI _ _ => .bit
  | .setMI _ _ => .bit
  | .jmp _ => .jump
  | .szM _ => .memory
  | .szaM _ => .memory
  | .szMI _ _ => .bit
  | .snzMI _ _ => .bit
  | .sizM _ => .memory
  | .sdzM _ => .memory
  | .sizaM _ => .memory
  | .sdzaM _ => .memory
  | .call _ => .jump
  | .ret => .none
  | .retAX _ => .immediate
  | .reti => .none
  | .tabrdcM _ => .memory
  | .tabrdlM _ => .memory
  | .nop => .none
  | .clrM _ => .memory
  | .setM _ => .memory
  | .clrWdt => .none
  | .clrWdt1 => .none
  | .clrWdt2 => .none
  | .swapM _ => .memory
  | .swapaM _ => .memory
  | .halt => .none

end Sys2Proof
end

