-- ==== Sys2Proof/WellFormed.lean ====
section
/-! DEFINITION. Well-formed instructions: the operands the fields of the word can hold (30_encoding.md R84). `m`, `x` and
`addr` have their width in their type; the bit number `i` is a plain number, of three bits. -/

namespace Sys2Proof

/-- The bit number of `[m].i` is 0 to 7 (00_scope.md R12); nothing else can be wrong with an instruction. -/
def Instr.wellFormed : Instr → Bool
  | .addAM _ => true
  | .addmAM _ => true
  | .addAX _ => true
  | .adcAM _ => true
  | .adcmAM _ => true
  | .subAX _ => true
  | .subAM _ => true
  | .submAM _ => true
  | .sbcAM _ => true
  | .sbcmAM _ => true
  | .daaM _ => true
  | .andAM _ => true
  | .orAM _ => true
  | .xorAM _ => true
  | .andmAM _ => true
  | .ormAM _ => true
  | .xormAM _ => true
  | .andAX _ => true
  | .orAX _ => true
  | .xorAX _ => true
  | .cplM _ => true
  | .cplaM _ => true
  | .incaM _ => true
  | .incM _ => true
  | .decaM _ => true
  | .decM _ => true
  | .rraM _ => true
  | .rrM _ => true
  | .rrcaM _ => true
  | .rrcM _ => true
  | .rlaM _ => true
  | .rlM _ => true
  | .rlcaM _ => true
  | .rlcM _ => true
  | .movAM _ => true
  | .movMA _ => true
  | .movAX _ => true
  | .clrMI _ i => decide (i < 8)
  | .setMI _ i => decide (i < 8)
  | .jmp _ => true
  | .szM _ => true
  | .szaM _ => true
  | .szMI _ i => decide (i < 8)
  | .snzMI _ i => decide (i < 8)
  | .sizM _ => true
  | .sdzM _ => true
  | .sizaM _ => true
  | .sdzaM _ => true
  | .call _ => true
  | .ret => true
  | .retAX _ => true
  | .reti => true
  | .tabrdcM _ => true
  | .tabrdlM _ => true
  | .nop => true
  | .clrM _ => true
  | .setM _ => true
  | .clrWdt => true
  | .clrWdt1 => true
  | .clrWdt2 => true
  | .swapM _ => true
  | .swapaM _ => true
  | .halt => true

end Sys2Proof
end

