-- ==== Sys2Proof/Decode.lean ====
section
/-! DEFINITION. SPEC-ENC, the spec's reference encoding (30_encoding.md R86 to R94): the decoder, total on 15-bit words and
refusing the reserved ones by name, and the encoder. Mark DESIGN CHOICE (the spec's D1; unsafe against the silicon):
SPEC-ENC is not the vendor's encoding (log 1). -/

namespace Sys2Proof

/-- The reserved words of 30_encoding.md R92. -/
inductive Reserved where
  /-- format N with a function code 07H..FFH -/
  | functionCode (fn : Nat)
  /-- op7 2CH..2FH or 37H..3FH -/
  | opcode (op7 : Nat)
deriving DecidableEq, Repr

/-- Format N, `fn` = W[7:0] (R87). -/
def decodeNone (fn : Nat) : Except Reserved Instr :=
  match fn with
  | 0x00 => .ok .nop
  | 0x01 => .ok .clrWdt
  | 0x02 => .ok .clrWdt1
  | 0x03 => .ok .clrWdt2
  | 0x04 => .ok .halt
  | 0x05 => .ok .ret
  | 0x06 => .ok .reti
  | _ => .error (.functionCode fn)

/-- Formats N, M and I, selected by `op7` = W[14:8]; `b` = W[7:0] is `m` or `x` (R87 to R89). -/
def decodeOp7 (op7 : Nat) (b : Byte) : Except Reserved Instr :=
  match op7 with
  | 0x00 => decodeNone b.toNat
  | 0x01 => .ok (.addAM b)
  | 0x02 => .ok (.addmAM b)
  | 0x03 => .ok (.adcAM b)
  | 0x04 => .ok (.adcmAM b)
  | 0x05 => .ok (.subAM b)
  | 0x06 => .ok (.submAM b)
  | 0x07 => .ok (.sbcAM b)
  | 0x08 => .ok (.sbcmAM b)
  | 0x09 => .ok (.daaM b)
  | 0x0A => .ok (.andAM b)
  | 0x0B => .ok (.orAM b)
  | 0x0C => .ok (.xorAM b)
  | 0x0D => .ok (.andmAM b)
  | 0x0E => .ok (.ormAM b)
  | 0x0F => .ok (.xormAM b)
  | 0x10 => .ok (.cplM b)
  | 0x11 => .ok (.cplaM b)
  | 0x12 => .ok (.incaM b)
  | 0x13 => .ok (.incM b)
  | 0x14 => .ok (.decaM b)
  | 0x15 => .ok (.decM b)
  | 0x16 => .ok (.rraM b)
  | 0x17 => .ok (.rrM b)
  | 0x18 => .ok (.rrcaM b)
  | 0x19 => .ok (.rrcM b)
  | 0x1A => .ok (.rlaM b)
  | 0x1B => .ok (.rlM b)
  | 0x1C => .ok (.rlcaM b)
  | 0x1D => .ok (.rlcM b)
  | 0x1E => .ok (.movAM b)
  | 0x1F => .ok (.movMA b)
  | 0x20 => .ok (.szM b)
  | 0x21 => .ok (.szaM b)
  | 0x22 => .ok (.sizM b)
  | 0x23 => .ok (.sdzM b)
  | 0x24 => .ok (.sizaM b)
  | 0x25 => .ok (.sdzaM b)
  | 0x26 => .ok (.tabrdcM b)
  | 0x27 => .ok (.tabrdlM b)
  | 0x28 => .ok (.clrM b)
  | 0x29 => .ok (.setM b)
  | 0x2A => .ok (.swapM b)
  | 0x2B => .ok (.swapaM b)
  | 0x30 => .ok (.addAX b)
  | 0x31 => .ok (.subAX b)
  | 0x32 => .ok (.andAX b)
  | 0x33 => .ok (.orAX b)
  | 0x34 => .ok (.xorAX b)
  | 0x35 => .ok (.movAX b)
  | 0x36 => .ok (.retAX b)
  | _ => .error (.opcode op7)

/-- Format B, `bop` = W[12:11] (R90). -/
def decodeBit (bop : Nat) (m : Byte) (i : Nat) : Instr :=
  match bop with
  | 0 => .clrMI m i
  | 1 => .setMI m i
  | 2 => .szMI m i
  | _ => .snzMI m i

/-- Format J, by W[12] (R91). -/
def decodeJump (isCall : Bool) (addr : Addr) : Instr :=
  if isCall then .call addr else .jmp addr

/-- The instruction of a program word, or the reason it is none (R94). -/
def decode (w : Word) : Except Reserved Instr :=
  match (w.extractLsb' 13 2).toNat with
  | 2 => .ok (decodeBit (w.extractLsb' 11 2).toNat (w.extractLsb' 0 8) (w.extractLsb' 8 3).toNat)
  | 3 => .ok (decodeJump (w.getLsbD 12) (w.extractLsb' 0 12))
  | _ => decodeOp7 (w.extractLsb' 8 7).toNat (w.extractLsb' 0 8)

/-- An instruction encoding, the open parameter ENCODING (00_scope.md R10, 92_eei_decisions.md D1): the instruction of every
program word, `none` for a reserved word. -/
abbrev Encoding := Word → Option Instr

/-- SPEC-ENC as an encoding: the instance this package fetches with (log 1). -/
def specEncoding : Encoding := fun w =>
  match decode w with
  | .ok i => some i
  | .error _ => none

/-- What every ENCODING keeps: it is injective on terms (D1), gives well-formed instructions, and has the address of JMP and
CALL in bits 11..0, which the source does fix (R85). -/
structure LegalEncoding (e : Encoding) : Prop where
  injective : ∀ (v w : Word) (i : Instr), e v = some i → e w = some i → v = w
  wellFormed : ∀ (w : Word) (i : Instr), e w = some i → i.wellFormed = true
  jmpAddress : ∀ (w : Word) (a : Addr), e w = some (.jmp a) → a = w.extractLsb' 0 12
  callAddress : ∀ (w : Word) (a : Addr), e w = some (.call a) → a = w.extractLsb' 0 12

/-- The instruction the decoder reads from a table word: one 15-bit word, held in `nbits` = 16 bits whose top bit does not
exist. -/
def decodeTableWord (_nbits w : Nat) : Option Instr :=
  if w < 2 ^ 15 then
    match decode (BitVec.ofNat 15 w) with
    | .ok i => some i
    | .error _ => none
  else none

/-! ### The encoder -/

/-- Format N: W[14:8] = 00H, W[7:0] = `fn` (R87). -/
def wordN (fn : Byte) : Word := 0x00#7 ++ fn

/-- Formats M and I: W[14:8] = `op7`, W[7:0] = `m` or `x` (R88, R89). -/
def wordMI (op7 : BitVec 7) (b : Byte) : Word := op7 ++ b

/-- Format B: W[14:13] = 10, W[12:11] = `bop`, W[10:8] = `i`, W[7:0] = `m` (R90). -/
def wordB (bop : BitVec 2) (i : Nat) (m : Byte) : Word := 0b10#2 ++ bop ++ BitVec.ofNat 3 i ++ m

/-- Format J: W[14:13] = 11, W[12] = 1 for CALL, W[11:0] = `addr` (R91). -/
def wordJ (isCall : BitVec 1) (addr : Addr) : Word := 0b11#2 ++ isCall ++ addr

/-- The word of an instruction under SPEC-ENC (opcode_table.json; R87 to R91). -/
def encode : Instr → Word
  | .addAM m => wordMI 0x01#7 m
  | .addmAM m => wordMI 0x02#7 m
  | .addAX x => wordMI 0x30#7 x
  | .adcAM m => wordMI 0x03#7 m
  | .adcmAM m => wordMI 0x04#7 m
  | .subAX x => wordMI 0x31#7 x
  | .subAM m => wordMI 0x05#7 m
  | .submAM m => wordMI 0x06#7 m
  | .sbcAM m => wordMI 0x07#7 m
  | .sbcmAM m => wordMI 0x08#7 m
  | .daaM m => wordMI 0x09#7 m
  | .andAM m => wordMI 0x0A#7 m
  | .orAM m => wordMI 0x0B#7 m
  | .xorAM m => wordMI 0x0C#7 m
  | .andmAM m => wordMI 0x0D#7 m
  | .ormAM m => wordMI 0x0E#7 m
  | .xormAM m => wordMI 0x0F#7 m
  | .andAX x => wordMI 0x32#7 x
  | .orAX x => wordMI 0x33#7 x
  | .xorAX x => wordMI 0x34#7 x
  | .cplM m => wordMI 0x10#7 m
  | .cplaM m => wordMI 0x11#7 m
  | .incaM m => wordMI 0x12#7 m
  | .incM m => wordMI 0x13#7 m
  | .decaM m => wordMI 0x14#7 m
  | .decM m => wordMI 0x15#7 m
  | .rraM m => wordMI 0x16#7 m
  | .rrM m => wordMI 0x17#7 m
  | .rrcaM m => wordMI 0x18#7 m
  | .rrcM m => wordMI 0x19#7 m
  | .rlaM m => wordMI 0x1A#7 m
  | .rlM m => wordMI 0x1B#7 m
  | .rlcaM m => wordMI 0x1C#7 m
  | .rlcM m => wordMI 0x1D#7 m
  | .movAM m => wordMI 0x1E#7 m
  | .movMA m => wordMI 0x1F#7 m
  | .movAX x => wordMI 0x35#7 x
  | .clrMI m i => wordB 0#2 i m
  | .setMI m i => wordB 1#2 i m
  | .jmp addr => wordJ 0#1 addr
  | .szM m => wordMI 0x20#7 m
  | .szaM m => wordMI 0x21#7 m
  | .szMI m i => wordB 2#2 i m
  | .snzMI m i => wordB 3#2 i m
  | .sizM m => wordMI 0x22#7 m
  | .sdzM m => wordMI 0x23#7 m
  | .sizaM m => wordMI 0x24#7 m
  | .sdzaM m => wordMI 0x25#7 m
  | .call addr => wordJ 1#1 addr
  | .ret => wordN 0x05#8
  | .retAX x => wordMI 0x36#7 x
  | .reti => wordN 0x06#8
  | .tabrdcM m => wordMI 0x26#7 m
  | .tabrdlM m => wordMI 0x27#7 m
  | .nop => wordN 0x00#8
  | .clrM m => wordMI 0x28#7 m
  | .setM m => wordMI 0x29#7 m
  | .clrWdt => wordN 0x01#8
  | .clrWdt1 => wordN 0x02#8
  | .clrWdt2 => wordN 0x03#8
  | .swapM m => wordMI 0x2A#7 m
  | .swapaM m => wordMI 0x2B#7 m
  | .halt => wordN 0x04#8

end Sys2Proof
end

