-- ==== Sys2Proof/Config.lean ====
section
/-! DEFINITION. What an implementation fixes and what the spec leaves open (spec/92_eei_decisions.md, table of open
parameters; 00_scope.md R7, R9). A constant without a body is a FREE VALUE: no proof can learn what it is. -/

namespace Sys2Proof.Config

/-! ### Free values -/

/-- TIMER_READ_LOSS (60_exceptions.md R228): whether a running timer fails to make one count during an instruction that
reads its counter. -/
opaque timerReadLoss : Bool

/-- INT_ENTRY_CYCLES less one (60_exceptions.md R190). -/
opaque intEntryExtraCycles : Nat

/-- INT_ENTRY_CYCLES (60_exceptions.md R190): "a positive integer", otherwise open. -/
def intEntryCycles : Nat := intEntryExtraCycles + 1

/-- HALT_WAKE_ON_PENDING (60_exceptions.md R244): whether a request flag set before HALT keeps the part from sleeping. -/
opaque haltWakeOnPending : Bool

/-- The byte that cell `cell` holds after the power-on numbered `draw` (10_state.md R52 `x`, R53, R54). -/
opaque powerOnByte : (draw : Nat) → (cell : Nat) → Byte

/-- A 12-bit stack level after the power-on numbered `draw` (10_state.md R53). -/
opaque powerOnAddr : (draw : Nat) → (level : Nat) → Addr

/-- The RAM byte at `address` that nothing has written since the power-on numbered `draw` (10_state.md R53, R54). -/
opaque powerOnRam : (draw : Nat) → (address : Nat) → Byte

/-- A bit the spec leaves unspecified: a flag after power-on, wf1 and wf2 after every reset (10_state.md R53). -/
opaque freeBit : (draw : Nat) → (which : Nat) → Bool

/-- 10_state.md R38: whether flag number `flag` of STATUS takes the data bit (true) or the flag result (false). -/
opaque statusTakesData : (draw : Nat) → (flag : Nat) → Bool

/-- 40_arithmetic.md R111: which candidate DAA gives in bands B1 and B2. -/
opaque daaPick : (draw : Nat) → Nat

/-- The TEST memory of the programming interface (70_reset_and_hazards.md R273; 91_not_in_source.md N16: its contents
are not given). -/
opaque testMemory : Addr → Word

/-! ### Timing parameters (00_scope.md R9): no instruction rule depends on them -/

/-- The two parts (00_scope.md R1). -/
inductive Variant where
  | ht48r51_1
  | ht48r51_2
deriving DecidableEq, Repr

/-- The two supply voltages of the A.C. table. -/
inductive Supply where
  | v3
  | v5
deriving DecidableEq, Repr

/-- The two system oscillators (option bit OP8). -/
inductive Oscillator where
  | rc
  | crystal
deriving DecidableEq, Repr

/-- A row of the A.C. table: least, typical and greatest value. -/
structure Figure where
  least : Nat
  typical : Nat
  greatest : Nat
deriving DecidableEq, Repr

/-- Least system clock, kHz. -/
def fSysMinKHz : Nat := 400

/-- Greatest system clock, kHz; R9 gives no 5V figure for the HT48R51-2. -/
def fSysMaxKHz : Variant → Supply → Oscillator → Option Nat
  | _, .v3, _ => some 2000
  | .ht48r51_1, .v5, .crystal => some 4000
  | .ht48r51_1, .v5, .rc => some 3000
  | .ht48r51_2, .v5, _ => none

/-- WDT oscillator period t_WDTOSC, microseconds; the 5V figures are those of the HT48R51-1 only (90_conflicts.md C14). -/
def wdtOscUs : Variant → Supply → Option Figure
  | _, .v3 => some { least := 45, typical := 90, greatest := 180 }
  | .ht48r51_1, .v5 => some { least := 35, typical := 65, greatest := 130 }
  | .ht48r51_2, .v5 => none

/-- WDT time-out t_WDT1 on the WDT oscillator without prescaler, milliseconds. The printed figures are rounded products of 256
and the period (95_test_vectors.md S5); the model's bounds are those of the period. -/
def wdtTimeOutMs : Supply → Figure
  | .v3 => { least := 12, typical := 23, greatest := 45 }
  | .v5 => { least := 9, typical := 17, greatest := 35 }

/-- WDT time-out t_WDT2 on the system clock without prescaler, in t_SYS. -/
def wdtTimeOutClocks : Nat := 1024

/-- One instruction cycle, in t_SYS. -/
def clocksPerCycle : Nat := 4

/-- System start-up timer period, in t_SYS. -/
def startUpClocks : Nat := 1024

/-- The same in instruction cycles (70_reset_and_hazards.md R259). -/
def startUpCycles : Nat := startUpClocks / clocksPerCycle

/-- Least low pulse at RES, nanoseconds. -/
def resPulseMinNs : Nat := 1000

/-- Least pulse t_INT at INT, nanoseconds (60_exceptions.md R186). -/
def intPulseMinNs : Nat := 1000

/-- Greatest frequency f_TIMER at a timer input, kHz (60_exceptions.md R223). -/
def timerInputMaxKHz : Supply → Nat
  | .v3 => 2000
  | .v5 => 4000

end Sys2Proof.Config
end

