-- ==== Sys2Proof/Machine/State.lean ====
section
/-! DEFINITION. The whole state of the machine (spec/10_state.md R18), the reasons a step can stop (60_exceptions.md R184),
and the state after reset (70_reset_and_hazards.md R254). The log is notes/assumptions/. -/

namespace Sys2Proof.Machine

/-- Why the model says that a program has gone wrong (00_scope.md R16). -/
inductive Fault where
  /-- Raised by RET, RET A,x and RETI with the stack empty (10_state.md R27; log 24). Safe: the silicon jumps somewhere,
  the model stops. -/
  | stackUnderflow
deriving DecidableEq, Repr

/-- Why the model gives a situation no meaning (00_scope.md R16, 60_exceptions.md R184). -/
inductive Refusal where
  /-- Raised by no arm of `exec` in this model: every instruction has its meaning. Safe. -/
  | notModelled (mnemonic : String)
  /-- Raised by a step that fetches a word which is no instruction (30_encoding.md R92). Safe. -/
  | reservedInstruction
  /-- Raised by SIZ and SDZ whose `[m]` resolves to PCL (44_branch.md R161, R162; log 32). Safe. -/
  | skipWithPclDestination
  /-- Raised by a step that leaves a timer with TON = 1 in mode 00 (60_exceptions.md R221; log 30). Safe. -/
  | timerModeUnused
  /-- Raised by every step of a machine launched with OP10 = 1 or OP11 = 1 (00_scope.md R7; log 33). Safe. -/
  | badOption
deriving DecidableEq, Repr

/-- The phase of a pulse width measurement (60_exceptions.md R224). -/
inductive PulsePhase where
  | idle
  | armed
  | counting
deriving DecidableEq, Repr

/-- A timer/event counter with its control register (10_state.md R41 to R44): 16 bits for timer 0, 8 bits for timer 1. -/
structure Timer (width : Nat) where
  /-- TMRnC bit 7, first digit of the mode code (10_state.md R42; log 29). -/
  tm1 : Bool
  /-- TMRnC bit 6, second digit of the mode code. -/
  tm0 : Bool
  /-- TMRnC bit 4, counting enabled. -/
  ton : Bool
  /-- TMRnC bit 3, the active edge. -/
  te : Bool
  /-- The up-counter (cnt0, cnt1). -/
  cnt : BitVec width
  /-- The preload register (pre0, pre1). -/
  pre : BitVec width
  /-- 60_exceptions.md R224. -/
  phase : PulsePhase
  /-- The instruction in progress has read the counter, which blocks its clock (60_exceptions.md R228). -/
  blocked : Bool
deriving DecidableEq, Repr

/-- Levels on the pads (60_exceptions.md R232): INT, which is also TMR0 (R236), and the port lines,
bit i for line i. -/
structure Pads where
  int : Bool
  pa : Byte
  pb : Byte
  pc : Byte
  pd : Byte
deriving DecidableEq, Repr

/-- What the environment does in one step (60_exceptions.md R201, 70_reset_and_hazards.md R275; log 2). -/
structure Input where
  /-- Power is removed and comes back. -/
  power : Bool
  /-- RES is low. -/
  res : Bool
  /-- The levels the pads take, in order, while the machine sleeps in HALT (not looked at when it does not). -/
  sleepPads : List Pads
  /-- The WDT oscillator periods that pass while the machine sleeps. -/
  sleepOsc : Nat
  /-- The levels the pads take, in order, during the cycles of the instruction or interrupt entry, or while a power cycle or RES
  resets the part. -/
  runPads : List Pads
  /-- The WDT oscillator periods that pass during those cycles. -/
  runOsc : Nat
deriving DecidableEq, Repr

/-- The state of the HT48R51 (10_state.md R18) with its program and option memory, the levels on its pads and the
environment's coming actions. -/
structure State where
  /-- ACC (R19). -/
  acc : Byte
  /-- The program counter (R20): between instructions, the address of the next one. -/
  pc : Addr
  /-- Stack level 0, the oldest (R25). -/
  stk0 : Addr
  stk1 : Addr
  stk2 : Addr
  stk3 : Addr
  /-- How many levels hold a return address (R25). -/
  sp : Fin 5
  /-- MP0, MP1 (R32). -/
  mp0 : Byte
  mp1 : Byte
  /-- TBLP (R33). -/
  tblp : Byte
  /-- TBLH, whose bit 7 is not implemented (R34). -/
  tblh : BitVec 7
  /-- WDTS (R35). -/
  wdts : Byte
  /-- STATUS, bit by bit (R36). -/
  flagC : Bool
  flagAC : Bool
  flagZ : Bool
  flagOV : Bool
  flagPD : Bool
  flagTO : Bool
  /-- INTC, bit by bit (R39). -/
  emi : Bool
  eei : Bool
  et0i : Bool
  et1i : Bool
  eif : Bool
  t0f : Bool
  t1f : Bool
  /-- Timer/event counter 0 and TMR0C (R41, R42). -/
  tmr0 : Timer 16
  /-- The low byte buffer of timer/event counter 0 (R41). -/
  lowbuf0 : Byte
  /-- Timer/event counter 1 and TMR1C (R43, R44). -/
  tmr1 : Timer 8
  /-- The output latches of ports A to D (R45). -/
  paLatch : Byte
  pbLatch : Byte
  pcLatch : Byte
  pdLatch : Byte
  /-- The control registers of ports A to D (R46). -/
  pac : Byte
  pbc : Byte
  pcc : Byte
  pdc : Byte
  /-- General purpose data memory 60H..FFH (R47): the bytes written since power-on (log 5). -/
  ram : List Host.Cell
  /-- Program memory (00_scope.md R8): the words that are not 0000H (log 6). -/
  rom : List (Nat × Word)
  /-- The ROM code options OP13..OP0 (00_scope.md R7). -/
  opt : BitVec 14
  /-- The watchdog counter with its prescaler (R49): instruction cycles or WDT oscillator periods since it was cleared. -/
  wdt : Nat
  /-- The pre-clear flags (R49). -/
  wf1 : Bool
  wf2 : Bool
  /-- HALT (R50). -/
  halted : Bool
  /-- The levels the environment now puts on the pads (60_exceptions.md R231, R232): what an input line reads. -/
  pads : Pads
  /-- What the edge detectors remember of INT, which is also TMR0 (R51). -/
  lastInt : Bool
  /-- What the edge detectors remember of the lines of port A (R51). -/
  lastPa : Byte
  /-- What the edge detector of TMR1 remembers (R51), whose input the part itself may drive (60_exceptions.md R236). -/
  lastTmr1 : Bool
  /-- MODEL: cycles of the instruction or interrupt entry just done (log 22). -/
  cyc : Nat
  /-- MODEL: instruction cycles since launch, with the start-up and wake-up delays (log 22). -/
  elapsed : Nat
  /-- MODEL: the number of the next free value (log 9). -/
  draws : Nat
  /-- MODEL: the free value number of the last power-on (log 5); `draws` is beyond it, so no later power-on has it again. -/
  ramDraw : Nat
  /-- MODEL: what the environment does in the coming steps; nothing, once the list is empty (log 2). -/
  inputs : List Input
deriving DecidableEq, Repr

/-- Every input pad undriven: the pull-high resistors make them high (60_exceptions.md R186, R232). -/
def Pads.high : Pads := { int := true, pa := 0xFF#8, pb := 0xFF#8, pc := 0xFF#8, pd := 0xFF#8 }

/-- A step in which the environment does nothing. -/
def Input.quiet : Input :=
  { power := false, res := false, sleepPads := [], sleepOsc := 0, runPads := [], runOsc := 0 }

/-- The state after power-on reset (70_reset_and_hazards.md R254), with nothing programmed and a quiet environment. A register
the spec leaves unknown is 0 (log 4, DESIGN CHOICE, unsafe). -/
def State.reset : State :=
  { acc := 0, pc := 0x000, stk0 := 0, stk1 := 0, stk2 := 0, stk3 := 0, sp := 0
    mp0 := 0, mp1 := 0, tblp := 0, tblh := 0, wdts := 0x07#8
    flagC := false, flagAC := false, flagZ := false, flagOV := false, flagPD := false, flagTO := false
    emi := false, eei := false, et0i := false, et1i := false, eif := false, t0f := false, t1f := false
    tmr0 := { tm1 := false, tm0 := false, ton := false, te := true, cnt := 0, pre := 0, phase := .idle, blocked := false }
    lowbuf0 := 0
    tmr1 := { tm1 := false, tm0 := false, ton := false, te := true, cnt := 0, pre := 0, phase := .idle, blocked := false }
    paLatch := 0xFF#8, pbLatch := 0xFF#8, pcLatch := 0xFF#8, pdLatch := 0xFF#8
    pac := 0xFF#8, pbc := 0xFF#8, pcc := 0xFF#8, pdc := 0xFF#8
    ram := [], rom := [], opt := 0
    wdt := 0, wf1 := false, wf2 := false, halted := false
    pads := Pads.high, lastInt := true, lastPa := 0xFF#8, lastTmr1 := true
    cyc := 0, elapsed := Config.startUpCycles, draws := 1, ramDraw := 0, inputs := [] }

end Sys2Proof.Machine
end

