-- ==== Sys2Proof/Machine/Flags.lean ====
section
/-! DEFINITION. The flag functions of 00_scope.md R15, the 8-bit operations with the flags each of them writes
(40_arithmetic.md to 42_incdec_rotate.md), and the bytes STATUS and INTC read as. -/

namespace Sys2Proof.Machine

/-! ### R15 -/

/-- `a + b + cin` on natural numbers. -/
def sum9 (a b : Byte) (cin : Bool) : Nat := a.toNat + b.toNat + cin.toNat

def addResult (a b : Byte) (cin : Bool) : Byte := BitVec.ofNat 8 (sum9 a b cin)

/-- The carry out of bit 7. -/
def addC (a b : Byte) (cin : Bool) : Bool := decide (sum9 a b cin > 255)

/-- The carry out of the low nibble. -/
def addAC (a b : Byte) (cin : Bool) : Bool := decide (a.toNat % 16 + b.toNat % 16 + cin.toNat > 15)

/-- The carry into bit 7. -/
def addC6 (a b : Byte) (cin : Bool) : Bool := decide (a.toNat % 128 + b.toNat % 128 + cin.toNat > 127)

def addOV (a b : Byte) (cin : Bool) : Bool := addC6 a b cin ^^ addC a b cin

def zeroOf (r : Byte) : Bool := decide (r = 0#8)

/-! ### A result with the flags its instruction writes -/

/-- The flags an instruction's own rule writes; `none` is a flag it does not affect. -/
structure FlagUpdate where
  c : Option Bool
  ac : Option Bool
  z : Option Bool
  ov : Option Bool
deriving DecidableEq, Repr

/-- No flag affected. -/
def FlagUpdate.nothing : FlagUpdate := { c := none, ac := none, z := none, ov := none }

/-- Only C. -/
def FlagUpdate.carry (c : Bool) : FlagUpdate := { FlagUpdate.nothing with c := some c }

/-- Only Z, from the result (41_logic.md R115, 42_incdec_rotate.md R130). -/
def FlagUpdate.zero (r : Byte) : FlagUpdate := { FlagUpdate.nothing with z := some (zeroOf r) }

/-- An 8-bit result and the flags that come with it. -/
structure AluResult where
  value : Byte
  flags : FlagUpdate
deriving DecidableEq, Repr

/-- A result that affects no flag. -/
def AluResult.plain (r : Byte) : AluResult := { value := r, flags := .nothing }

/-- A result that writes Z alone. -/
def AluResult.withZ (r : Byte) : AluResult := { value := r, flags := .zero r }

/-- Addition with all four flags (40_arithmetic.md R100). -/
def aluAdd (cin : Bool) (a b : Byte) : AluResult :=
  { value := addResult a b cin
    flags := { c := some (addC a b cin), ac := some (addAC a b cin)
               z := some (zeroOf (addResult a b cin)), ov := some (addOV a b cin) } }

/-- Subtraction is the addition `a + ~b + cin` (40_arithmetic.md R100). -/
def aluSub (cin : Bool) (a b : Byte) : AluResult := aluAdd cin a (~~~b)

def aluAnd (a b : Byte) : AluResult := .withZ (a &&& b)
def aluOr (a b : Byte) : AluResult := .withZ (a ||| b)
def aluXor (a b : Byte) : AluResult := .withZ (a ^^^ b)

/-- Complement (41_logic.md R125). The first operand of a one-operand operation is ACC and is not looked at. -/
def aluCpl (_ b : Byte) : AluResult := .withZ (~~~b)

/-- Increment modulo 256 (42_incdec_rotate.md R131). -/
def aluInc (_ b : Byte) : AluResult := .withZ (b + 1)

/-- Decrement modulo 256 (42_incdec_rotate.md R133). -/
def aluDec (_ b : Byte) : AluResult := .withZ (b - 1)

/-- `{v[0], v[7:1]}` (42_incdec_rotate.md R135). -/
def aluRr (_ b : Byte) : AluResult := .plain (b.extractLsb' 0 1 ++ b.extractLsb' 1 7)

/-- `{v[6:0], v[7]}` (42_incdec_rotate.md R139). -/
def aluRl (_ b : Byte) : AluResult := .plain (b.extractLsb' 0 7 ++ b.extractLsb' 7 1)

/-- `{c, v[7:1]}`, C from v[0] (42_incdec_rotate.md R137). -/
def aluRrc (c : Bool) (_ b : Byte) : AluResult :=
  { value := BitVec.ofBool c ++ b.extractLsb' 1 7, flags := .carry (b.getLsbD 0) }

/-- `{v[6:0], c}`, C from v[7] (42_incdec_rotate.md R141). -/
def aluRlc (c : Bool) (_ b : Byte) : AluResult :=
  { value := b.extractLsb' 0 7 ++ BitVec.ofBool c, flags := .carry (b.getLsbD 7) }

/-- `{v[3:0], v[7:4]}` (45_table_misc.md R179). -/
def aluSwap (_ b : Byte) : AluResult := .plain (b.extractLsb' 0 4 ++ b.extractLsb' 4 4)

/-- The operand itself (43_move_bit.md R146). -/
def aluMove (_ b : Byte) : AluResult := .plain b

/-- Bit `i` cleared (43_move_bit.md R149). -/
def aluClrBit (i : Nat) (_ b : Byte) : AluResult := .plain (b &&& ~~~((1 : Byte) <<< i))

/-- Bit `i` set (43_move_bit.md R150). -/
def aluSetBit (i : Nat) (_ b : Byte) : AluResult := .plain (b ||| ((1 : Byte) <<< i))

/-! ### DAA (40_arithmetic.md R111) -/

/-- The low nibble of DAA: adjusted when it is over 9 or AC is set. -/
def daaLow (acc : Byte) (ac : Bool) : BitVec 4 :=
  if decide (acc.toNat % 16 > 9) || ac then BitVec.ofNat 4 (acc.toNat % 16 + 6) else BitVec.ofNat 4 (acc.toNat % 16)

/-- The internal carry AC1 of the Operation block. -/
def daaAc1 (acc : Byte) (ac : Bool) : Bool := decide (acc.toNat % 16 > 9) && !ac

/-- The high nibble of the Operation block and its C, for a given AC1. -/
def daaHigh (acc : Byte) (ac1 c : Bool) : BitVec 4 × Bool :=
  if decide (acc.toNat / 16 > 9) || c then (BitVec.ofNat 4 (acc.toNat / 16 + 6 + ac1.toNat), true)
  else (BitVec.ofNat 4 (acc.toNat / 16 + ac1.toNat), c)

/-- The high nibble and C of a correct decimal adjustment: AC1 counts in the test against 9. -/
def daaHighDecimal (acc : Byte) (ac1 c : Bool) : BitVec 4 × Bool :=
  if decide (acc.toNat / 16 + ac1.toNat > 9) || c then (BitVec.ofNat 4 (acc.toNat / 16 + 6 + ac1.toNat), true)
  else (BitVec.ofNat 4 (acc.toNat / 16 + ac1.toNat), c)

/-- The Operation block. -/
def daaBlock (acc : Byte) (ac c : Bool) : Byte × Bool :=
  ((daaHigh acc (daaAc1 acc ac) c).1 ++ daaLow acc ac, (daaHigh acc (daaAc1 acc ac) c).2)

/-- Band B1: high nibble 9, low nibble over 9, AC = 0, C = 0. -/
def daaBand1 (acc : Byte) (ac c : Bool) : Bool :=
  decide (acc.toNat / 16 = 9) && decide (acc.toNat % 16 > 9) && !ac && !c

/-- Band B2: low nibble over 9 and AC = 1. -/
def daaBand2 (acc : Byte) (ac : Bool) : Bool := decide (acc.toNat % 16 > 9) && ac

/-- What DAA may give (R111, 90_conflicts.md C5, 92_eei_decisions.md D26): the Operation block; in band B1 also the
decimal-correct byte and C; in band B2 also what AC1 = 1, the prose's reading, gives in the block and in a decimal-correct
adjustment (log 12). -/
def daaCandidate (pick : Nat) (acc : Byte) (ac c : Bool) : Byte × Bool :=
  if daaBand1 acc ac c then
    if pick % 2 = 0 then daaBlock acc ac c
    else ((daaHighDecimal acc true c).1 ++ daaLow acc ac, (daaHighDecimal acc true c).2)
  else if daaBand2 acc ac then
    if pick % 3 = 0 then daaBlock acc ac c
    else if pick % 3 = 1 then ((daaHigh acc true c).1 ++ daaLow acc ac, (daaHigh acc true c).2)
    else ((daaHighDecimal acc true c).1 ++ daaLow acc ac, (daaHighDecimal acc true c).2)
  else daaBlock acc ac c

/-! ### The flags in the state -/

/-- The flags an instruction's rule writes, when its destination is not STATUS. -/
def State.setFlags (s : State) (f : FlagUpdate) : State :=
  { s with
    flagC := f.c.getD s.flagC, flagAC := f.ac.getD s.flagAC
    flagZ := f.z.getD s.flagZ, flagOV := f.ov.getD s.flagOV }

/-- One flag of an instruction whose destination is STATUS (10_state.md R38): `data` is the bit written to STATUS; an affected
flag is the data bit or the flag result, unspecified which (log 11). -/
def flagOrData (draw which : Nat) (data : Bool) : Option Bool → Bool
  | none => data
  | some result => if Config.statusTakesData draw which then data else result

/-- The flags after a write to STATUS by an instruction that writes flags by its own rule (R38); `s` already has the data
bits. -/
def State.setFlagsOfStatus (s : State) (f : FlagUpdate) : State :=
  { s with
    flagC := flagOrData s.draws 0 s.flagC f.c, flagAC := flagOrData s.draws 1 s.flagAC f.ac
    flagZ := flagOrData s.draws 2 s.flagZ f.z, flagOV := flagOrData s.draws 3 s.flagOV f.ov
    draws := s.draws + 1 }

/-- A byte from its bits, the highest first. -/
def byteOfBits (b7 b6 b5 b4 b3 b2 b1 b0 : Bool) : Byte :=
  BitVec.ofBool b7 ++ BitVec.ofBool b6 ++ BitVec.ofBool b5 ++ BitVec.ofBool b4 ++
    BitVec.ofBool b3 ++ BitVec.ofBool b2 ++ BitVec.ofBool b1 ++ BitVec.ofBool b0

/-- What 0AH reads: `{0, 0, TO, PD, OV, Z, AC, C}` (10_state.md R37). -/
def State.statusByte (s : State) : Byte :=
  byteOfBits false false s.flagTO s.flagPD s.flagOV s.flagZ s.flagAC s.flagC

/-- What 0BH reads: `{0, T1F, T0F, EIF, ET1I, ET0I, EEI, EMI}` (10_state.md R40). -/
def State.intcByte (s : State) : Byte :=
  byteOfBits false s.t1f s.t0f s.eif s.et1i s.et0i s.eei s.emi

end Sys2Proof.Machine
end

