-- ==== Sys2Proof/Machine/Operands.lean ====
section
/-! DEFINITION. The stores of the machine and how an operand reaches them: RAM and program memory, operand resolution,
the read and the write of every data address with their side effects (spec/20_memory.md R62 to R67), ports
(60_exceptions.md R231) and timer registers (10_state.md R41 to R43). -/

namespace Sys2Proof.Machine

/-! ### Memory as a list of address and value pairs, addresses strictly rising -/

/-- The value listed at an address. -/
def Memory.find {α : Type} : List (Nat × α) → Nat → Option α
  | [], _ => none
  | (b, y) :: rest, a => if a = b then some y else Memory.find rest a

/-- The list that holds one value, or none. -/
def Memory.entry {α : Type} (a : Nat) : Option α → List (Nat × α)
  | none => []
  | some x => [(a, x)]

/-- Lists a value at an address, or takes the address off the list. -/
def Memory.set {α : Type} : List (Nat × α) → Nat → Option α → List (Nat × α)
  | [], a, v => Memory.entry a v
  | (b, y) :: rest, a, v =>
    if a < b then Memory.entry a v ++ (b, y) :: rest
    else if a = b then Memory.entry a v ++ rest
    else (b, y) :: Memory.set rest a v

/-- Addresses strictly rising, the first not below `lo`. -/
def Memory.risingFrom {α : Type} (lo : Nat) : List (Nat × α) → Bool
  | [] => true
  | (a, _) :: rest => decide (lo ≤ a) && Memory.risingFrom (a + 1) rest

/-- The canonical form of RAM: strictly rising addresses of 60H..FFH (10_state.md R47). An unlisted byte has no value of its
own (log 5), so no entry can equal it. -/
def Memory.wf (ram : List Host.Cell) : Bool :=
  Memory.risingFrom 0x60 ram && ram.all (fun cell => decide (cell.1 ≤ 0xFF))

/-- The canonical form of program memory: strictly rising 12-bit addresses, no word 0000H listed (log 6). -/
def Memory.romWf (rom : List (Nat × Word)) : Bool :=
  Memory.risingFrom 0 rom && rom.all (fun cell => decide (cell.1 ≤ 0xFFF) && decide (cell.2 ≠ 0))

/-- The RAM byte at an address: what was written, else the free value of the last power-on (10_state.md R54; log 5). -/
def State.ramByte (s : State) (a : Nat) : Byte :=
  (Memory.find s.ram a).getD (Config.powerOnRam s.ramDraw a)

/-- A program memory: the word at an address, 0000H where none is listed (log 6). -/
def Memory.romWord (rom : List (Nat × Word)) (a : Addr) : Word :=
  (Memory.find rom a.toNat).getD 0

/-- A program memory with another word at an address (70_reset_and_hazards.md R273: done before the part runs). -/
def Memory.romSet (rom : List (Nat × Word)) (a : Addr) (w : Word) : List (Nat × Word) :=
  Memory.set rom a.toNat (if w = 0 then none else some w)

/-- `ProgRead(a)` (20_memory.md R67). -/
def State.progRead (s : State) (a : Addr) : Word := Memory.romWord s.rom a

/-! ### Timer registers -/

/-- The byte TMRnC reads as: bits 5 and 2..0 are 0 (10_state.md R42). -/
def Timer.controlByte {w : Nat} (t : Timer w) : Byte :=
  byteOfBits t.tm1 t.tm0 false t.ton t.te false false false

/-- A write to TMRnC (10_state.md R42). Software setting TON arms the pulse width measurement and clearing it makes it idle
(60_exceptions.md R224; log 17). -/
def Timer.writeControl {w : Nat} (t : Timer w) (v : Byte) : Timer w :=
  { t with
    tm1 := v.getLsbD 7, tm0 := v.getLsbD 6, ton := v.getLsbD 4, te := v.getLsbD 3
    phase := if v.getLsbD 4 then (if t.ton then t.phase else .armed) else .idle }

/-- A write to the preload register; a timer that is off is loaded too (10_state.md R43, 60_exceptions.md R226). -/
def Timer.writePreload {w : Nat} (t : Timer w) (v : BitVec w) : Timer w :=
  { t with pre := v, cnt := if t.ton then t.cnt else v }

/-! ### Ports -/

/-- A port read: pad levels where the control bit is 1, latch bits where it is 0 (60_exceptions.md R231). -/
def portRead (control pad latch : Byte) : Byte := (control &&& pad) ||| (~~~control &&& latch)

/-- What a line of a port drives: the latch bit where the control bit is 0, nothing otherwise (60_exceptions.md R232). -/
def portDriven (control latch : Byte) (line : Nat) : Option Bool :=
  if control.getLsbD line then none else some (latch.getLsbD line)

/-- The option bits OP7..OP0: port A wake-up (00_scope.md R7). -/
def State.wakeMask (s : State) : Byte := s.opt.extractLsb' 0 8

/-! ### Operand resolution and the data cells (20_memory.md R62 to R64) -/

/-- The cell a pointer names; the indirect registers themselves are no cell. -/
def throughPointer (pointer : Byte) : Option Byte :=
  if pointer = 0x00#8 ∨ pointer = 0x02#8 then none else some pointer

/-- `Resolve(m)` (R62). -/
def State.resolve (s : State) (m : Byte) : Option Byte :=
  if m = 0x00#8 then throughPointer s.mp0
  else if m = 0x02#8 then throughPointer s.mp1
  else some m

/-- `CellRead(t)` (R63); `s.pc` holds `npc` while an instruction executes (10_state.md R22). -/
def State.cellRead (s : State) (t : Byte) : Byte :=
  if 0x60 ≤ t.toNat then s.ramByte t.toNat
  else match t.toNat with
    | 0x01 => s.mp0
    | 0x03 => s.mp1
    | 0x05 => s.acc
    | 0x06 => s.pc.extractLsb' 0 8
    | 0x07 => s.tblp
    | 0x08 => 0#1 ++ s.tblh
    | 0x09 => s.wdts
    | 0x0A => s.statusByte
    | 0x0B => s.intcByte
    | 0x0C => s.tmr0.cnt.extractLsb' 8 8
    | 0x0D => s.lowbuf0
    | 0x0E => s.tmr0.controlByte
    | 0x10 => s.tmr1.cnt
    | 0x11 => s.tmr1.controlByte
    | 0x12 => portRead s.pac s.pads.pa s.paLatch
    | 0x13 => s.pac
    | 0x14 => portRead s.pbc s.pads.pb s.pbLatch
    | 0x15 => s.pbc
    | 0x16 => portRead s.pcc s.pads.pc s.pcLatch
    | 0x17 => s.pcc
    | 0x18 => portRead s.pdc s.pads.pd s.pdLatch
    | 0x19 => s.pdc
    | _ => 0x00#8

/-- `CellWrite(t, v)` (R64). -/
def State.cellWrite (s : State) (t v : Byte) : State :=
  if 0x60 ≤ t.toNat then { s with ram := Memory.set s.ram t.toNat (some v) }
  else match t.toNat with
    | 0x01 => { s with mp0 := v }
    | 0x03 => { s with mp1 := v }
    | 0x05 => { s with acc := v }
    | 0x06 => { s with pc := s.pc.extractLsb' 8 4 ++ v, cyc := s.cyc + 1 }
    | 0x07 => { s with tblp := v }
    | 0x09 => { s with wdts := v }
    | 0x0A => { s with
        flagC := v.getLsbD 0, flagAC := v.getLsbD 1, flagZ := v.getLsbD 2, flagOV := v.getLsbD 3 }
    | 0x0B => { s with
        emi := v.getLsbD 0, eei := v.getLsbD 1, et0i := v.getLsbD 2, et1i := v.getLsbD 3
        eif := v.getLsbD 4, t0f := v.getLsbD 5, t1f := v.getLsbD 6 }
    | 0x0C => { s with tmr0 := s.tmr0.writePreload (v ++ s.lowbuf0) }
    | 0x0D => { s with lowbuf0 := v }
    | 0x0E => { s with tmr0 := s.tmr0.writeControl v }
    | 0x10 => { s with tmr1 := s.tmr1.writePreload v }
    | 0x11 => { s with tmr1 := s.tmr1.writeControl v }
    | 0x12 => { s with paLatch := v }
    | 0x13 => { s with pac := v }
    | 0x14 => { s with pbLatch := v }
    | 0x15 => { s with pbc := v }
    | 0x16 => { s with pcLatch := v }
    | 0x17 => { s with pcc := v }
    | 0x18 => { s with pdLatch := v }
    | 0x19 => { s with pdc := v }
    | _ => s

/-- The value of `MemRead(m, 1)` (R63). -/
def State.memRead (s : State) (m : Byte) : Byte :=
  match s.resolve m with
  | none => 0x00#8
  | some t => s.cellRead t

/-- The side effect of `MemRead(m, 1)` (R63): reading TMR0H latches the low byte and blocks the clock of timer 0, reading TMR1
blocks the clock of timer 1. -/
def State.afterRead (s : State) (m : Byte) : State :=
  { s with
    lowbuf0 := if s.resolve m = some 0x0C#8 then s.tmr0.cnt.extractLsb' 0 8 else s.lowbuf0
    tmr0 := { s.tmr0 with blocked := s.tmr0.blocked || decide (s.resolve m = some 0x0C#8) }
    tmr1 := { s.tmr1 with blocked := s.tmr1.blocked || decide (s.resolve m = some 0x10#8) } }

/-- `MemWrite(m, 1, v)` (R64). -/
def State.memWrite (s : State) (m v : Byte) : State :=
  match s.resolve m with
  | none => s
  | some t => s.cellWrite t v

end Sys2Proof.Machine
end

