-- ==== Sys2Proof/Machine/Ops.lean ====
section
/-! DEFINITION. The shared operations of the meanings: starting an instruction (spec/10_state.md R22), where a result goes
(20_memory.md R65), skips (44_branch.md R155), the stack (10_state.md R26, R27), interrupt entry and return
(60_exceptions.md R190, R195), table reads (45_table_misc.md R171) and the watchdog clear (R176). -/

namespace Sys2Proof.Machine

/-- What an instruction's meaning answers. -/
abbrev Result := Host.Outcome State Fault Refusal

/-! ### Starting an instruction -/

/-- The instruction at `pc` has been fetched: the program counter holds `npc` (R22), one cycle is counted, and no counter
has been read yet. -/
def State.fetched (s : State) : State :=
  { s with
    pc := s.pc + 1, cyc := 1
    tmr0 := { s.tmr0 with blocked := false }, tmr1 := { s.tmr1 with blocked := false } }

/-! ### Where a result goes -/

/-- A result to ACC. -/
def State.toAcc (s : State) (r : AluResult) : State := { s with acc := r.value }.setFlags r.flags

/-- A result to `[m]`; with STATUS as destination 10_state.md R38 applies, if the instruction writes a flag at all. -/
def State.toMem (s : State) (m : Byte) (r : AluResult) : State :=
  if s.resolve m = some 0x0A#8 ∧ r.flags ≠ .nothing then (s.memWrite m r.value).setFlagsOfStatus r.flags
  else (s.memWrite m r.value).setFlags r.flags

/-- `A,[m]` and `[m]` instructions whose result goes to ACC: read `[m]`, compute from ACC and the byte read. -/
def State.memToAcc (s : State) (m : Byte) (op : Byte → Byte → AluResult) : State :=
  (s.fetched.afterRead m).toAcc (op s.acc (s.fetched.memRead m))

/-- The read-modify-write instructions (20_memory.md R65). -/
def State.memToMem (s : State) (m : Byte) (op : Byte → Byte → AluResult) : State :=
  (s.fetched.afterRead m).toMem m (op s.acc (s.fetched.memRead m))

/-- `A,x` instructions. -/
def State.immToAcc (s : State) (x : Byte) (op : Byte → Byte → AluResult) : State :=
  s.fetched.toAcc (op s.acc x)

/-! ### Control transfer -/

/-- A skip passes over the next word and takes one more cycle (44_branch.md R155). -/
def State.skipIf (s : State) (skip : Bool) : State :=
  { s with pc := if skip then s.pc + 1 else s.pc, cyc := if skip then s.cyc + 1 else s.cyc }

/-- A transfer to `target`, two cycles in all (70_reset_and_hazards.md R268). -/
def State.jumpTo (s : State) (target : Addr) : State := { s with pc := target, cyc := 2 }

/-- `Push(v)` (10_state.md R26): on a full stack the oldest entry is lost. -/
def State.push (s : State) (v : Addr) : State :=
  match s.sp with
  | 0 => { s with stk0 := v, sp := 1 }
  | 1 => { s with stk1 := v, sp := 2 }
  | 2 => { s with stk2 := v, sp := 3 }
  | 3 => { s with stk3 := v, sp := 4 }
  | 4 => { s with stk0 := s.stk1, stk1 := s.stk2, stk2 := s.stk3, stk3 := v }

/-- The most recently pushed address, none on an empty stack (10_state.md R27). -/
def State.top (s : State) : Option Addr :=
  match s.sp with
  | 0 => none
  | 1 => some s.stk0
  | 2 => some s.stk1
  | 3 => some s.stk2
  | 4 => some s.stk3

/-- The stack with its top level given up; the level keeps its bits (10_state.md R27). -/
def State.dropTop (s : State) : State := { s with sp := if s.sp = 0 then 0 else s.sp - 1 }

/-- `pc <- Pop()`, then what else the return does; a fault on an empty stack, with nothing changed (44_branch.md R166;
log 24). -/
def State.returnWith (s : State) (also : State → State) : Result :=
  match s.top with
  | none => .fault .stackUnderflow
  | some target => .next (also (s.dropTop.fetched.jumpTo target))

/-! ### Interrupt entry and return -/

/-- The three interrupt sources, the highest priority first (60_exceptions.md R185). -/
inductive Source where
  | external
  | timer0
  | timer1
deriving DecidableEq, Repr

/-- The fixed vectors (R185). -/
def Source.vector : Source → Addr
  | .external => 0x004
  | .timer0 => 0x008
  | .timer1 => 0x00C

/-- Whether a source can be acknowledged (R189). -/
def State.canAcknowledge (s : State) : Source → Bool
  | .external => s.emi && s.eei && s.eif && decide (s.sp ≠ 4)
  | .timer0 => s.emi && s.et0i && s.t0f && decide (s.sp ≠ 4)
  | .timer1 => s.emi && s.et1i && s.t1f && decide (s.sp ≠ 4)

/-- The source that is acknowledged at a boundary, by priority (R191). -/
def State.acknowledged (s : State) : Option Source :=
  if s.canAcknowledge .external then some .external
  else if s.canAcknowledge .timer0 then some .timer0
  else if s.canAcknowledge .timer1 then some .timer1
  else none

/-- Interrupt entry (R190): the only exception entry of the part. `pc` is where execution would have continued. -/
def State.interruptEntry (s : State) (k : Source) : State :=
  { s.push s.pc with
    eif := s.eif && decide (k ≠ .external)
    t0f := s.t0f && decide (k ≠ .timer0)
    t1f := s.t1f && decide (k ≠ .timer1)
    emi := false
    pc := k.vector
    cyc := Config.intEntryCycles
    tmr0 := { s.tmr0 with blocked := false }
    tmr1 := { s.tmr1 with blocked := false } }

/-- Return from interrupt (R195, 44_branch.md R168): the program counter comes back and EMI is set, nothing else. -/
def State.interruptReturn (s : State) : Result := s.returnWith fun t => { t with emi := true }

/-! ### Table reads -/

/-- A table read from program memory address `a`: low byte to `[m]`, high seven bits to TBLH, two cycles, one more into PCL
(45_table_misc.md R170, R171). -/
def State.tableRead (s : State) (m : Byte) (a : Addr) : State :=
  { ({ s.fetched with cyc := 2 }).memWrite m ((s.progRead a).extractLsb' 0 8) with
    tblh := (s.progRead a).extractLsb' 8 7 }

/-! ### The watchdog as instructions see it -/

/-- OP13 = 1: the watchdog is disabled (00_scope.md R7). -/
def State.wdtDisabled (s : State) : Bool := s.opt.getLsbD 13

/-- OP9 = 1: CLR WDT is the active type, else the pair CLR WDT1 and CLR WDT2 (00_scope.md R7). -/
def State.oneCycleClear (s : State) : Bool := s.opt.getLsbD 9

/-- The watchdog cleared, with PD and TO (45_table_misc.md R176). -/
def State.clearWatchdog (s : State) : State := { s with wdt := 0, flagPD := false, flagTO := false }

end Sys2Proof.Machine
end

