-- ==== Sys2Proof/Machine/Reset.lean ====
section
/-! DEFINITION. The five reset conditions (spec/70_reset_and_hazards.md R250 to R258; the table of 10_state.md R52; what it
does not list, R53). What a reset leaves unspecified is a free value (log 9, log 10). -/

namespace Sys2Proof.Machine

/-- TMRnC as every chip reset leaves it, 08H: mode 00, TON = 0, TE = 1; counter and preload are kept (R52). -/
def Timer.off {w : Nat} (t : Timer w) : Timer w :=
  { t with tm1 := false, tm0 := false, ton := false, te := true, phase := .idle, blocked := false }

/-- What conditions (2), (3) and (4) have in common (R255): everything but TO and PD. -/
def State.chipReset (s : State) : State :=
  { s with
    pc := 0x000, sp := 0, wdts := 0x07#8
    emi := false, eei := false, et0i := false, et1i := false, eif := false, t0f := false, t1f := false
    tmr0 := s.tmr0.off, tmr1 := s.tmr1.off
    paLatch := 0xFF#8, pbLatch := 0xFF#8, pcLatch := 0xFF#8, pdLatch := 0xFF#8
    pac := 0xFF#8, pbc := 0xFF#8, pcc := 0xFF#8, pdc := 0xFF#8
    wdt := 0, halted := false
    wf1 := Config.freeBit s.draws 0, wf2 := Config.freeBit s.draws 1, draws := s.draws + 1
    cyc := 0 }

/-- (2) WDT time-out in normal operation (R255). -/
def State.watchdogReset (s : State) : State := { s.chipReset with flagTO := true }

/-- (3) RES reset in normal operation (R256), (4) RES reset in HALT (R257). -/
def State.resReset (s : State) : State :=
  if s.halted then { s.chipReset with flagTO := false, flagPD := true } else s.chipReset

/-- OP8 = 1: crystal oscillator (00_scope.md R7). -/
def State.crystal (s : State) : Bool := s.opt.getLsbD 8

/-- The delay of a wake-up, in instruction cycles (60_exceptions.md R247, 90_conflicts.md C10; log 22). -/
def State.wakeDelay (s : State) : Nat := if s.crystal then Config.startUpCycles else 0

/-- (5) WDT time-out in HALT, the warm reset (R258). -/
def State.warmReset (s : State) : State :=
  { s with
    pc := 0x000, sp := 0, flagTO := true, flagPD := true, wdt := 0, halted := false
    wf1 := Config.freeBit s.draws 0, wf2 := Config.freeBit s.draws 1, draws := s.draws + 1
    cyc := 0, elapsed := s.elapsed + s.wakeDelay
    tmr0 := { s.tmr0 with blocked := false }, tmr1 := { s.tmr1 with blocked := false } }

/-- (1) Power-on reset (R254) of a part that has lost its power: what R52 marks x and what R53 calls unspecified are free
values, new ones at every power-on (R54), the edge detectors' memory among them. The two PROMs keep their contents, and the
levels on the pads are the environment's. -/
def State.powerOn (s : State) : State :=
  { s.chipReset with
    acc := Config.powerOnByte s.draws 0, mp0 := Config.powerOnByte s.draws 1, mp1 := Config.powerOnByte s.draws 2
    tblp := Config.powerOnByte s.draws 3, tblh := (Config.powerOnByte s.draws 4).extractLsb' 0 7
    lowbuf0 := Config.powerOnByte s.draws 5
    flagC := Config.freeBit s.draws 2, flagAC := Config.freeBit s.draws 3
    flagZ := Config.freeBit s.draws 4, flagOV := Config.freeBit s.draws 5
    flagPD := false, flagTO := false
    stk0 := Config.powerOnAddr s.draws 0, stk1 := Config.powerOnAddr s.draws 1
    stk2 := Config.powerOnAddr s.draws 2, stk3 := Config.powerOnAddr s.draws 3
    tmr0 := { s.tmr0.off with
      cnt := Config.powerOnByte s.draws 6 ++ Config.powerOnByte s.draws 7
      pre := Config.powerOnByte s.draws 8 ++ Config.powerOnByte s.draws 9 }
    tmr1 := { s.tmr1.off with cnt := Config.powerOnByte s.draws 10, pre := Config.powerOnByte s.draws 11 }
    ram := [], ramDraw := s.draws
    lastInt := Config.freeBit s.draws 6, lastPa := Config.powerOnByte s.draws 12
    lastTmr1 := Config.freeBit s.draws 7
    elapsed := s.elapsed + Config.startUpCycles }

/-- The environment's pads after a power cycle or a RES reset in which they took the levels `taken`, unchanged if none. The edge
detectors remember what they did: R53 leaves their memory unchanged but at power-on (log 8). -/
def State.padsBecome (s : State) (taken : List Pads) : State := { s with pads := taken.getLastD s.pads }

end Sys2Proof.Machine
end

