-- ==== Sys2Proof/Machine/Devices.lean ====
section
/-! DEFINITION. What the devices do between instructions (spec/60_exceptions.md): the timer/event counters (R220 to R229), the
edge detectors of the pads (R186, R223, R224, R243), the watchdog (R210 to R219). -/

namespace Sys2Proof.Machine

/-! ### Timer/event counters -/

/-- The operating modes, by (TM1, TM0) (R221). -/
inductive TimerMode where
  | unused
  | eventCount
  | timer
  | pulseWidth
deriving DecidableEq, Repr

def Timer.mode {w : Nat} (t : Timer w) : TimerMode :=
  match t.tm1, t.tm0 with
  | false, false => .unused
  | false, true => .eventCount
  | true, false => .timer
  | true, true => .pulseWidth

/-- TON = 1 in the unused mode, which the model refuses (R221; log 30). -/
def Timer.onInUnusedMode {w : Nat} (t : Timer w) : Bool := t.ton && decide (t.mode = .unused)

/-- `n` counts from `c` with reload from `pre` at each overflow; whether one happened (R225). -/
def countUp {w : Nat} (pre : BitVec w) : Nat → BitVec w → BitVec w × Bool
  | 0, c => (c, false)
  | n + 1, c => if c = BitVec.allOnes w then ((countUp pre n pre).1, true) else countUp pre n (c + 1)

/-- The timer counts the instruction clock: timer mode, or a pulse width being measured (R222, R224). -/
def Timer.onInstructionClock {w : Nat} (t : Timer w) : Bool :=
  match t.mode with
  | .timer => true
  | .pulseWidth => decide (t.phase = .counting)
  | _ => false

/-- The counts lost because the instruction read the counter (R228; log 13). -/
def Timer.lostCounts {w : Nat} (t : Timer w) : Nat := (t.blocked && Config.timerReadLoss).toNat

/-- `c` instruction cycles pass; `run` is whether the timer runs during them (R201, log 16). Answers whether it overflowed. -/
def Timer.passCycles {w : Nat} (run : Bool) (c : Nat) (t : Timer w) : Timer w × Bool :=
  if run && t.onInstructionClock then
    ({ t with cnt := (countUp t.pre (c - t.lostCounts) t.cnt).1, blocked := false },
      (countUp t.pre (c - t.lostCounts) t.cnt).2)
  else (t, false)

/-- One count in event count mode, unless it is the one lost to a read (R223, R228). -/
def Timer.countEvent {w : Nat} (t : Timer w) : Timer w × Bool :=
  ({ t with cnt := (countUp t.pre (1 - t.lostCounts) t.cnt).1, blocked := false },
    (countUp t.pre (1 - t.lostCounts) t.cnt).2)

/-- The level at the timer's input goes from `old` to `now`. In event count mode TE = 0 counts rising, TE = 1 falling edges
(R223); in pulse width mode TE = 1 starts on a rising, TE = 0 on a falling edge, and the opposite edge stops and clears TON
(R224, 90_conflicts.md C6). `pulse` is false while the machine sleeps (log 18). -/
def Timer.inputEdge {w : Nat} (run pulse old now : Bool) (t : Timer w) : Timer w × Bool :=
  if run && (old != now) then
    match t.mode with
    | .eventCount => if now = !t.te then t.countEvent else (t, false)
    | .pulseWidth =>
      match t.phase with
      | .armed => if pulse && (now = t.te) then ({ t with phase := .counting }, false) else (t, false)
      | .counting =>
        if pulse && (now = !t.te) then ({ t with ton := false, phase := .idle }, false) else (t, false)
      | .idle => (t, false)
    | _ => (t, false)
  else (t, false)

/-! ### Pads -/

/-- The level at the TMR1 input, the PC5 pad: driven by the part itself when PC5 is an output (R236). -/
def State.tmr1Level (s : State) (p : Pads) : Bool :=
  if s.pcc.getLsbD 5 then p.pc.getLsbD 5 else s.pcLatch.getLsbD 5

/-- INT falls (R186). -/
def State.intFalls (s : State) (p : Pads) : Bool := s.lastInt && !p.int

/-- Timer 0 sees the INT pad, which is TMR0 (R236), go to `p`. -/
def State.tmr0Edge (s : State) (run pulse : Bool) (p : Pads) : Timer 16 × Bool :=
  s.tmr0.inputEdge run pulse s.lastInt p.int

/-- Timer 1 sees its input go to its level under `p`. -/
def State.tmr1Edge (s : State) (run pulse : Bool) (p : Pads) : Timer 8 × Bool :=
  s.tmr1.inputEdge run pulse s.lastTmr1 (s.tmr1Level p)

/-- The pads go to the levels `p`: EIF, the timers with their overflow flags, and what the edge detectors remember. -/
def State.samplePads (s : State) (run0 run1 pulse : Bool) (p : Pads) : State :=
  { s with
    eif := s.eif || s.intFalls p
    tmr0 := (s.tmr0Edge run0 pulse p).1, t0f := s.t0f || (s.tmr0Edge run0 pulse p).2
    tmr1 := (s.tmr1Edge run1 pulse p).1, t1f := s.t1f || (s.tmr1Edge run1 pulse p).2
    pads := p, lastInt := p.int, lastPa := p.pa, lastTmr1 := s.tmr1Level p }

/-- The pads take several levels in turn. -/
def State.sampleAll (run0 run1 pulse : Bool) : List Pads → State → State
  | [], s => s
  | p :: rest, s => State.sampleAll run0 run1 pulse rest (s.samplePads run0 run1 pulse p)

/-- Whether the pads going to `p` wake a sleeping machine (R242): an INT falling edge, an event count overflow, a falling edge
on a line of port A whose option bit is 1 (R243, R244; log 35). -/
def State.wakesOn (s : State) (p : Pads) : Bool :=
  s.intFalls p || (s.tmr0Edge s.tmr0.ton false p).2 || (s.tmr1Edge s.tmr1.ton false p).2 ||
    decide (s.lastPa &&& ~~~p.pa &&& s.wakeMask ≠ 0)

/-- The pads take several levels in turn while the machine sleeps; whether one of them woke it. -/
def State.sleepThrough : List Pads → State → State × Bool
  | [], s => (s, false)
  | p :: rest, s =>
    let r := State.sleepThrough rest (s.samplePads s.tmr0.ton s.tmr1.ton false p)
    (r.1, s.wakesOn p || r.2)

/-! ### Watchdog -/

/-- OP12 = 1: the watchdog counts instruction cycles, else WDT oscillator periods (R211). -/
def State.wdtOnInstructionClock (s : State) : Bool := s.opt.getLsbD 12

/-- The count of the time-out, `256 × 2^WDTS[2:0]` (R212, R214). -/
def State.wdtLimit (s : State) : Nat := 256 * 2 ^ (s.wdts.toNat % 8)

/-- The watchdog at a boundary of normal operation: count, and reset the chip at the time-out (R214, R215). -/
def State.runWatchdog (s : State) (osc : Nat) : State :=
  if s.wdtDisabled then s
  else if s.wdtLimit ≤ s.wdt + (if s.wdtOnInstructionClock then s.cyc else osc) then s.watchdogReset
  else { s with wdt := s.wdt + (if s.wdtOnInstructionClock then s.cyc else osc) }

/-- What the watchdog counts while the machine sleeps: oscillator periods only (R219). -/
def State.sleepCount (s : State) (osc : Nat) : Nat :=
  if s.wdtDisabled || s.wdtOnInstructionClock then 0 else osc

/-- Whether the watchdog times out while the machine sleeps (R216, R219). -/
def State.sleepTimeOut (s : State) (osc : Nat) : Bool :=
  !s.wdtDisabled && !s.wdtOnInstructionClock && decide (s.wdtLimit ≤ s.wdt + osc)

/-! ### The time an instruction or an interrupt entry takes -/

/-- Both timers count the cycles just spent. -/
def State.countCycles (s : State) (run0 run1 : Bool) : State :=
  { s with
    tmr0 := (s.tmr0.passCycles run0 s.cyc).1, t0f := s.t0f || (s.tmr0.passCycles run0 s.cyc).2
    tmr1 := (s.tmr1.passCycles run1 s.cyc).1, t1f := s.t1f || (s.tmr1.passCycles run1 s.cyc).2
    elapsed := s.elapsed + s.cyc }

/-- The blocking of the counters' clocks ends with the instruction. -/
def State.unblocked (s : State) : State :=
  { s with tmr0 := { s.tmr0 with blocked := false }, tmr1 := { s.tmr1 with blocked := false } }

/-- Step 6 of R201: `s.cyc` cycles pass, then the edges of those cycles (first those between what the detectors remember and
the present levels: the one the instruction itself may have made at PC5, log 19, or those of a reset, log 8), then the
watchdog. `run0` and `run1`: the timer was on before and after the instruction (log 16). -/
def State.passTime (s : State) (inp : Input) (run0 run1 : Bool) : State :=
  ((State.sampleAll run0 run1 true (s.pads :: inp.runPads) (s.countCycles run0 run1)).unblocked).runWatchdog inp.runOsc

end Sys2Proof.Machine
end

