-- ==== Sys2Proof/Machine/Arithmetic.lean ====
section
/-! DEFINITION. The eleven arithmetic instructions (spec/40_arithmetic.md). -/

namespace Sys2Proof.Machine

/-- `ADD A,[m]`: R101. -/
def execAddAM (m : Byte) (s : State) : Result := .next (s.memToAcc m (aluAdd false))

/-- `ADDM A,[m]`: R102. -/
def execAddmAM (m : Byte) (s : State) : Result := .next (s.memToMem m (aluAdd false))

/-- `ADD A,x`: R103. -/
def execAddAX (x : Byte) (s : State) : Result := .next (s.immToAcc x (aluAdd false))

/-- `ADC A,[m]`: R104. -/
def execAdcAM (m : Byte) (s : State) : Result := .next (s.memToAcc m (aluAdd s.flagC))

/-- `ADCM A,[m]`: R105. -/
def execAdcmAM (m : Byte) (s : State) : Result := .next (s.memToMem m (aluAdd s.flagC))

/-- `SUB A,x`: R106. -/
def execSubAX (x : Byte) (s : State) : Result := .next (s.immToAcc x (aluSub true))

/-- `SUB A,[m]`: R107. -/
def execSubAM (m : Byte) (s : State) : Result := .next (s.memToAcc m (aluSub true))

/-- `SUBM A,[m]`: R108, ACC minus memory. -/
def execSubmAM (m : Byte) (s : State) : Result := .next (s.memToMem m (aluSub true))

/-- `SBC A,[m]`: R109. -/
def execSbcAM (m : Byte) (s : State) : Result := .next (s.memToAcc m (aluSub s.flagC))

/-- `SBCM A,[m]`: R110. -/
def execSbcmAM (m : Byte) (s : State) : Result := .next (s.memToMem m (aluSub s.flagC))

/-- The byte and the C that DAA gives in state `s`; in bands B1 and B2 a free choice between the candidates (R111; log 12). -/
def State.daaResult (s : State) : AluResult :=
  let r := daaCandidate (Config.daaPick s.draws) s.acc s.flagAC s.flagC
  { value := r.1, flags := .carry r.2 }

/-- The state with a new number for the next free value, if DAA used one (log 9). -/
def State.afterDaaPick (s : State) : State :=
  { s with
    draws := if daaBand1 s.acc s.flagAC s.flagC || daaBand2 s.acc s.flagAC then s.draws + 1 else s.draws }

/-- `DAA [m]`: R111; `[m]` is written without being read. -/
def execDaaM (m : Byte) (s : State) : Result :=
  .next (s.fetched.afterDaaPick.toMem m s.daaResult)

end Sys2Proof.Machine
end

