-- ==== Sys2Proof/Machine/Branch.lean ====
section
/-! DEFINITION. The branch, skip, call and return instructions (spec/44_branch.md). -/

namespace Sys2Proof.Machine

/-- SIZ and SDZ: read, compute, write back, skip on a zero result; PCL as destination is refused (R161, R162). -/
def State.updateAndSkip (s : State) (m : Byte) (op : Byte → Byte) : Result :=
  if s.resolve m = some 0x06#8 then .refused .skipWithPclDestination
  else .next (((s.fetched.afterRead m).memWrite m (op (s.fetched.memRead m))).skipIf
    (zeroOf (op (s.fetched.memRead m))))

/-- SZA, SIZA and SDZA: the computed byte to ACC, always, then skip if it is zero (R158, R163, R164). -/
def State.accAndSkip (s : State) (m : Byte) (op : Byte → Byte) : State :=
  ({ s.fetched.afterRead m with acc := op (s.fetched.memRead m) }).skipIf (zeroOf (op (s.fetched.memRead m)))

/-- `JMP addr`: R156. -/
def execJmp (addr : Addr) (s : State) : Result := .next (s.fetched.jumpTo addr)

/-- `SZ [m]`: R157. -/
def execSzM (m : Byte) (s : State) : Result :=
  .next ((s.fetched.afterRead m).skipIf (zeroOf (s.fetched.memRead m)))

/-- `SZA [m]`: R158. -/
def execSzaM (m : Byte) (s : State) : Result := .next (s.accAndSkip m id)

/-- `SZ [m].i`: R159. -/
def execSzMI (m : Byte) (i : Nat) (s : State) : Result :=
  .next ((s.fetched.afterRead m).skipIf (!(s.fetched.memRead m).getLsbD i))

/-- `SNZ [m].i`: R160. -/
def execSnzMI (m : Byte) (i : Nat) (s : State) : Result :=
  .next ((s.fetched.afterRead m).skipIf ((s.fetched.memRead m).getLsbD i))

/-- `SIZ [m]`: R161. -/
def execSizM (m : Byte) (s : State) : Result := s.updateAndSkip m (· + 1)

/-- `SDZ [m]`: R162. -/
def execSdzM (m : Byte) (s : State) : Result := s.updateAndSkip m (· - 1)

/-- `SIZA [m]`: R163. -/
def execSizaM (m : Byte) (s : State) : Result := .next (s.accAndSkip m (· + 1))

/-- `SDZA [m]`: R164. -/
def execSdzaM (m : Byte) (s : State) : Result := .next (s.accAndSkip m (· - 1))

/-- `CALL addr`: R165; the address after the CALL is pushed. -/
def execCall (addr : Addr) (s : State) : Result := .next ((s.fetched.push s.fetched.pc).jumpTo addr)

/-- `RET`: R166. -/
def execRet (s : State) : Result := s.returnWith id

/-- `RET A,x`: R167. -/
def execRetAX (x : Byte) (s : State) : Result := s.returnWith fun t => { t with acc := x }

/-- `RETI`: R168. -/
def execReti (s : State) : Result := s.interruptReturn

end Sys2Proof.Machine
end

