-- ==== Sys2Proof/Machine/IncDecRotate.lean ====
section
/-! DEFINITION. The increment, decrement and rotate instructions (spec/42_incdec_rotate.md). -/

namespace Sys2Proof.Machine

/-- `INCA [m]`: R131. -/
def execIncaM (m : Byte) (s : State) : Result := .next (s.memToAcc m aluInc)

/-- `INC [m]`: R132. -/
def execIncM (m : Byte) (s : State) : Result := .next (s.memToMem m aluInc)

/-- `DECA [m]`: R133. -/
def execDecaM (m : Byte) (s : State) : Result := .next (s.memToAcc m aluDec)

/-- `DEC [m]`: R134. -/
def execDecM (m : Byte) (s : State) : Result := .next (s.memToMem m aluDec)

/-- `RRA [m]`: R135. -/
def execRraM (m : Byte) (s : State) : Result := .next (s.memToAcc m aluRr)

/-- `RR [m]`: R136. -/
def execRrM (m : Byte) (s : State) : Result := .next (s.memToMem m aluRr)

/-- `RRCA [m]`: R137. -/
def execRrcaM (m : Byte) (s : State) : Result := .next (s.memToAcc m (aluRrc s.flagC))

/-- `RRC [m]`: R138. -/
def execRrcM (m : Byte) (s : State) : Result := .next (s.memToMem m (aluRrc s.flagC))

/-- `RLA [m]`: R139. -/
def execRlaM (m : Byte) (s : State) : Result := .next (s.memToAcc m aluRl)

/-- `RL [m]`: R140. -/
def execRlM (m : Byte) (s : State) : Result := .next (s.memToMem m aluRl)

/-- `RLCA [m]`: R141. -/
def execRlcaM (m : Byte) (s : State) : Result := .next (s.memToAcc m (aluRlc s.flagC))

/-- `RLC [m]`: R142. -/
def execRlcM (m : Byte) (s : State) : Result := .next (s.memToMem m (aluRlc s.flagC))

end Sys2Proof.Machine
end

