-- ==== Sys2Proof/Machine/Logic.lean ====
section
/-! DEFINITION. The eleven logic instructions (spec/41_logic.md). -/

namespace Sys2Proof.Machine

/-- `AND A,[m]`: R116. -/
def execAndAM (m : Byte) (s : State) : Result := .next (s.memToAcc m aluAnd)

/-- `OR A,[m]`: R117. -/
def execOrAM (m : Byte) (s : State) : Result := .next (s.memToAcc m aluOr)

/-- `XOR A,[m]`: R118. -/
def execXorAM (m : Byte) (s : State) : Result := .next (s.memToAcc m aluXor)

/-- `ANDM A,[m]`: R119. -/
def execAndmAM (m : Byte) (s : State) : Result := .next (s.memToMem m aluAnd)

/-- `ORM A,[m]`: R120. -/
def execOrmAM (m : Byte) (s : State) : Result := .next (s.memToMem m aluOr)

/-- `XORM A,[m]`: R121. -/
def execXormAM (m : Byte) (s : State) : Result := .next (s.memToMem m aluXor)

/-- `AND A,x`: R122. -/
def execAndAX (x : Byte) (s : State) : Result := .next (s.immToAcc x aluAnd)

/-- `OR A,x`: R123. -/
def execOrAX (x : Byte) (s : State) : Result := .next (s.immToAcc x aluOr)

/-- `XOR A,x`: R124. -/
def execXorAX (x : Byte) (s : State) : Result := .next (s.immToAcc x aluXor)

/-- `CPL [m]`: R125. -/
def execCplM (m : Byte) (s : State) : Result := .next (s.memToMem m aluCpl)

/-- `CPLA [m]`: R126. -/
def execCplaM (m : Byte) (s : State) : Result := .next (s.memToAcc m aluCpl)

end Sys2Proof.Machine
end

