-- ==== Sys2Proof/Machine/MoveBit.lean ====
section
/-! DEFINITION. The data move and bit instructions (spec/43_move_bit.md). -/

namespace Sys2Proof.Machine

/-- `MOV A,[m]`: R146. -/
def execMovAM (m : Byte) (s : State) : Result := .next (s.memToAcc m aluMove)

/-- `MOV [m],A`: R147; `[m]` is not read. -/
def execMovMA (m : Byte) (s : State) : Result := .next (s.fetched.memWrite m s.acc)

/-- `MOV A,x`: R148. -/
def execMovAX (x : Byte) (s : State) : Result := .next (s.immToAcc x aluMove)

/-- `CLR [m].i`: R149. -/
def execClrMI (m : Byte) (i : Nat) (s : State) : Result := .next (s.memToMem m (aluClrBit i))

/-- `SET [m].i`: R150. -/
def execSetMI (m : Byte) (i : Nat) (s : State) : Result := .next (s.memToMem m (aluSetBit i))

end Sys2Proof.Machine
end

