-- ==== Sys2Proof/Machine/TableMisc.lean ====
section
/-! DEFINITION. The table read and miscellaneous instructions (spec/45_table_misc.md). -/

namespace Sys2Proof.Machine

/-- `TABRDC [m]`: R171; the page is that of the program counter while the instruction executes (log 23). -/
def execTabrdcM (m : Byte) (s : State) : Result :=
  .next (s.tableRead m (s.fetched.pc.extractLsb' 8 4 ++ s.tblp))

/-- `TABRDL [m]`: R172. -/
def execTabrdlM (m : Byte) (s : State) : Result := .next (s.tableRead m (0xF#4 ++ s.tblp))

/-- `NOP`: R173. -/
def execNop (s : State) : Result := .next s.fetched

/-- `CLR [m]`: R174; `[m]` is not read. -/
def execClrM (m : Byte) (s : State) : Result := .next (s.fetched.memWrite m 0x00#8)

/-- `SET [m]`: R175; `[m]` is not read. -/
def execSetM (m : Byte) (s : State) : Result := .next (s.fetched.memWrite m 0xFF#8)

/-- `CLR WDT`: R176 (log 31). -/
def execClrWdt (s : State) : Result :=
  .next (if s.wdtDisabled || !s.oneCycleClear then s.fetched else s.fetched.clearWatchdog)

/-- CLR WDT1 and CLR WDT2 (R177, R178): with the pair active, clear if the other flag is set, else set the own flag. -/
def State.preclear (s : State) (other : Bool) (setOwn : State → State) : State :=
  if s.wdtDisabled || s.oneCycleClear then s.fetched
  else if other then { s.fetched.clearWatchdog with wf1 := false, wf2 := false }
  else setOwn s.fetched

/-- `CLR WDT1`: R177. -/
def execClrWdt1 (s : State) : Result := .next (s.preclear s.wf2 fun t => { t with wf1 := true })

/-- `CLR WDT2`: R178. -/
def execClrWdt2 (s : State) : Result := .next (s.preclear s.wf1 fun t => { t with wf2 := true })

/-- `SWAP [m]`: R179. -/
def execSwapM (m : Byte) (s : State) : Result := .next (s.memToMem m aluSwap)

/-- `SWAPA [m]`: R180. -/
def execSwapaM (m : Byte) (s : State) : Result := .next (s.memToAcc m aluSwap)

/-- `HALT`: R181. -/
def execHalt (s : State) : Result := .next { s.fetched with flagPD := true, flagTO := false, wdt := 0, halted := true }

end Sys2Proof.Machine
end

