-- ==== Sys2Proof/Machine/Cycle.lean ====
section
/-! DEFINITION. The order of events in one step (spec/60_exceptions.md R201). -/

namespace Sys2Proof.Machine

/-- The device update after an instruction or an interrupt entry that began in state `before` (R201 step 6; R221). -/
def State.finish (s : State) (inp : Input) (before : State) : Result :=
  if s.tmr0.onInUnusedMode || s.tmr1.onInUnusedMode then .refused .timerModeUnused
  else .next (s.passTime inp (before.tmr0.ton && s.tmr0.ton) (before.tmr1.ton && s.tmr1.ton))

/-- The instruction at the program counter under the encoding `e`, none for a reserved word (20_memory.md R68). -/
def State.fetch (s : State) (e : Encoding) : Option Instr := e (s.progRead s.pc)

/-- R201 steps 3 to 6: an interrupt entry, or one instruction. -/
def State.runCycle (s : State) (e : Encoding) (inp : Input) : Result :=
  match s.acknowledged with
  | some k => (s.interruptEntry k).finish inp s
  | none =>
    match s.fetch e with
    | none => .refused .reservedInstruction
    | some i =>
      match exec i s with
      | .next t => t.finish inp s
      | .fault f => .fault f
      | .refused r => .refused r

/-- A request flag set before HALT wakes at once where HALT_WAKE_ON_PENDING is true (R244; log 15). -/
def State.pendingWakes (s : State) : Bool := (s.eif || s.t0f || s.t1f) && Config.haltWakeOnPending

/-- The machine wakes up; the delay, one cycle more before an interrupt entry, is time only (R247; log 22). -/
def State.wakeUp (s : State) : State :=
  { s with halted := false, elapsed := s.elapsed + s.wakeDelay + s.acknowledged.isSome.toNat }

/-- The sleeping state after the pad levels and oscillator periods of a step. -/
def State.slept (s : State) (inp : Input) : State :=
  { (State.sleepThrough inp.sleepPads s).1 with wdt := s.wdt + s.sleepCount inp.sleepOsc, cyc := 0 }

/-- R201 step 2: a step of a machine in HALT. Only what happens in `sleepPads` is an event during HALT. What happened in the
cycle of the HALT instruction itself is not one: a request flag it set wakes as `pendingWakes` says, and a falling edge of
port A it brought wakes nothing (log 38, DESIGN CHOICE). -/
def State.haltedCycle (s : State) (e : Encoding) (inp : Input) : Result :=
  if s.tmr0.onInUnusedMode || s.tmr1.onInUnusedMode then .refused .timerModeUnused
  else if s.sleepTimeOut inp.sleepOsc then .next (State.sleepThrough inp.sleepPads s).1.warmReset
  else if (State.sleepThrough inp.sleepPads s).2 || s.pendingWakes then (s.slept inp).wakeUp.runCycle e inp
  else .next (s.slept inp)

/-- OP10 or OP11 set (00_scope.md R7). -/
def State.badOption (s : State) : Bool := s.opt.getLsbD 10 || s.opt.getLsbD 11

/-- What the environment does in this step: the first of the coming inputs, nothing if there is none (log 2). -/
def State.input (s : State) : Input := s.inputs.headD Input.quiet

/-- The state with this step's input taken. -/
def State.inputTaken (s : State) : State := { s with inputs := s.inputs.tail }

/-- One step (R201) of a machine whose words are encoded by `e` (00_scope.md R10): launch check, power cycle, RES, HALT,
interrupt or instruction. -/
def State.cycle (s : State) (e : Encoding) : Result :=
  if s.badOption then .refused .badOption
  else if s.input.power then .next (s.inputTaken.powerOn.padsBecome s.input.runPads)
  else if s.input.res then .next (s.inputTaken.resReset.padsBecome s.input.runPads)
  else if s.halted then s.inputTaken.haltedCycle e s.input
  else s.inputTaken.runCycle e s.input

end Sys2Proof.Machine
end

