-- ==== Sys2Proof/Machine/Step.lean ====
section
/-! DEFINITION. The step of the machine, and where a test stores the instruction it runs next. -/

namespace Sys2Proof.Machine

/-- One step of the machine (spec/60_exceptions.md R201), with SPEC-ENC as its encoding (log 1). -/
def step (s : State) : Host.Outcome State Fault Refusal := s.cycle specEncoding

/-- `s` with the instruction word `w` in program memory at the program counter, where a step that executes an instruction
fetches it (20_memory.md R68): not asleep in HALT, no RES, no power cycle, no interrupt to acknowledge. It stands for the
loading of a program from outside the machine (log 6). A word has 15 bits, so `nbits` adds nothing. -/
def State.withFetchWord (s : State) (_nbits w : Nat) : State :=
  { s with rom := Memory.romSet s.rom s.pc (BitVec.ofNat 15 w) }

end Sys2Proof.Machine
end

