-- ==== Sys2Proof/Machine/Programming.lean ====
section
/-! DEFINITION. The PROM programming and verification port (spec/70_reset_and_hazards.md R273, R274), as far as the text
keeps it: how program memory and options get their launch-time contents. It works before the part runs, beside the step
(log 37). -/

namespace Sys2Proof.Machine

/-- What the R/W pin selects; its polarity is lost (91_not_in_source.md F11). -/
inductive PromAccess where
  | program
  | verify
deriving DecidableEq, Repr

/-- The port and the memories behind it. -/
structure PromPort where
  rom : List (Nat × Word)
  option : BitVec 14
  /-- The LOCK signal (R274). -/
  lock : Bool
  /-- How many CLK falling edges this cycle has had: 0 to 3 address, 4 to 7 data. -/
  edges : Fin 8
  addr : Addr
  tsel : Bool
  osel : Bool
  /-- The data nibbles clocked in so far, nibble k at bits 4k+3..4k. -/
  data : BitVec 16
deriving DecidableEq, Repr

/-- The word the address phase selected; TSEL and OSEL both 1 select nothing the text names. Program code under LOCK = 1
"will return the result 1" (R274). -/
def PromPort.selected (p : PromPort) : Option Word :=
  match p.tsel, p.osel with
  | true, false => some (Config.testMemory p.addr)
  | false, true => some (p.option.setWidth 15)
  | false, false => some (if p.lock then BitVec.allOnes 15 else Memory.romWord p.rom p.addr)
  | true, true => none

/-- A nibble put at nibble place `k` of a 16-bit value. -/
def withNibble (v : BitVec 16) (k : Nat) (nibble : BitVec 4) : BitVec 16 :=
  (v &&& ~~~((0xF : BitVec 16) <<< (4 * k))) ||| ((nibble.setWidth 16) <<< (4 * k))

/-- CS (PA5) goes high: the next falling edge of CLK begins an address phase. -/
def PromPort.deselect (p : PromPort) : PromPort := { p with edges := 0 }

/-- The data programmed; bit 15 of it is undefined and dropped. TEST memory is only read. DESIGN CHOICE (log 37): a word is
programmed whatever LOCK holds, of which the text says only what reading gives (R274), and whatever it held before, of which
the text says nothing (91_not_in_source.md N21). -/
def PromPort.store (p : PromPort) (v : BitVec 16) : PromPort :=
  match p.tsel, p.osel with
  | false, false => { p with rom := Memory.romSet p.rom p.addr (v.setWidth 15) }
  | false, true => { p with option := v.setWidth 14 }
  | _, _ => p

/-- A falling edge of CLK (PA4) with `ad` on AD3..AD0 (PA3..PA0): the port after it, and the nibble it puts out in the data
phase of a verification, bit 15 as 0. After a verification cycle the address goes on by one (R273); after FFFH it goes on at
000H, of which the text says nothing (log 37, DESIGN CHOICE). -/
def PromPort.clock (p : PromPort) (access : PromAccess) (ad : BitVec 4) : PromPort × Option (BitVec 4) :=
  let next := { p with edges := p.edges + 1 }
  if p.edges.val < 3 then ({ next with addr := (withNibble (p.addr.setWidth 16) p.edges.val ad).setWidth 12 }, none)
  else if p.edges.val = 3 then ({ next with tsel := ad.getLsbD 2, osel := ad.getLsbD 3, data := 0 }, none)
  else match access with
    | .verify =>
      let out := p.selected.map fun w => (w.setWidth 16 : BitVec 16).extractLsb' (4 * (p.edges.val - 4)) 4
      if p.edges.val = 7 then ({ p with edges := 4, addr := p.addr + 1 }, out) else (next, out)
    | .program =>
      let data := withNibble p.data (p.edges.val - 4) ad
      if p.edges.val = 7 then (({ p with edges := 4, data := 0 }).store data, none)
      else ({ next with data := data }, none)

/-- Several falling edges in a row. -/
def PromPort.clocks (access : PromAccess) : List (BitVec 4) → PromPort → PromPort × List (Option (BitVec 4))
  | [], p => (p, [])
  | ad :: rest, p =>
    let r := p.clock access ad
    let q := PromPort.clocks access rest r.1
    (q.1, r.2 :: q.2)

/-- The four address nibbles of R273: bits 3..0, 7..4, 11..8, then TSEL at bit 2 and OSEL at bit 3. -/
def addressNibbles (a : Addr) (tsel osel : Bool) : List (BitVec 4) :=
  [a.extractLsb' 0 4, a.extractLsb' 4 4, a.extractLsb' 8 4, BitVec.ofBool osel ++ BitVec.ofBool tsel ++ 0#2]

/-- The four data nibbles of R273, the lowest first; bit 15 is undefined and here 0. -/
def dataNibbles (w : Word) : List (BitVec 4) :=
  [w.extractLsb' 0 4, w.extractLsb' 4 4, w.extractLsb' 8 4, 0#1 ++ w.extractLsb' 12 3]

/-- LOCK programmed as 1 (R274). -/
def PromPort.programLock (p : PromPort) : PromPort := { p with lock := true }

/-- The machine launched with what was programmed (00_scope.md R7, R8). -/
def State.launchedWith (s : State) (p : PromPort) : State := { s with rom := p.rom, opt := p.option }

end Sys2Proof.Machine
end

