-- ==== Sys2Proof/Machine/Timing.lean ====
section
/-! DEFINITION. Real time (spec/00_scope.md R9, R17; 60_exceptions.md R213, R214, R223, R248): the parameters F_SYS and
T_WDTOSC, how long instruction cycles last, which inputs an environment can offer in that time, and the clock on OSC2. No step
depends on any of it (log 39). -/

namespace Sys2Proof.Machine

/-- The oscillator that option bit OP8 selects (00_scope.md R7). -/
def State.oscillator (s : State) : Config.Oscillator := if s.crystal then .crystal else .rc

/-- The timing parameters of a run: the part, its supply, F_SYS and T_WDTOSC. -/
structure Timing where
  variant : Config.Variant
  supply : Config.Supply
  /-- F_SYS, in kHz. -/
  fSysKHz : Nat
  /-- T_WDTOSC, in microseconds. -/
  wdtOscUs : Nat
deriving DecidableEq, Repr

/-- The parameters lie within the A.C. table (R9). -/
structure LegalTiming (t : Timing) (o : Config.Oscillator) : Prop where
  fSysLeast : Config.fSysMinKHz ≤ t.fSysKHz
  fSysGreatest : ∃ most, Config.fSysMaxKHz t.variant t.supply o = some most ∧ t.fSysKHz ≤ most
  wdtOsc : ∃ f, Config.wdtOscUs t.variant t.supply = some f ∧ f.least ≤ t.wdtOscUs ∧ t.wdtOscUs ≤ f.greatest

/-- The system clocks of `c` instruction cycles (R9, R17). -/
def clocksOf (c : Nat) : Nat := Config.clocksPerCycle * c

/-- `c` instruction cycles last at least `ns` nanoseconds; one t_SYS is `1000000 / F_SYS` nanoseconds with F_SYS in kHz. -/
def Timing.lastsAtLeast (t : Timing) (c ns : Nat) : Prop := ns * t.fSysKHz ≤ clocksOf c * 1000000

/-- `c` instruction cycles last less than `ns` nanoseconds. -/
def Timing.lastsLessThan (t : Timing) (c ns : Nat) : Prop := clocksOf c * 1000000 < ns * t.fSysKHz

/-- How often a level that was `old` goes from `!now` to `now` when it takes the levels of a list in turn. -/
def edgesTo (now : Bool) : Bool → List Bool → Nat
  | _, [] => 0
  | old, level :: rest => (decide (old ≠ now ∧ level = now)).toNat + edgesTo now level rest

/-- An input that an environment keeping to R9 can offer to an instruction or entry of `c` cycles that begins with the present
levels `s.pads`: low pulses at INT of at least t_INT, edges at the timer inputs no faster than f_TIMER, and as many periods
of the WDT oscillator as fit. A step with RES low stands for a pulse of at least `Config.resPulseMinNs`. -/
structure EnvironmentFits (t : Timing) (s : State) (inp : Input) (c : Nat) : Prop where
  intPulses : t.lastsAtLeast c ((edgesTo false s.pads.int (inp.runPads.map Pads.int) - 1) * Config.intPulseMinNs)
  timer0 : ∀ now : Bool, (edgesTo now s.pads.int (inp.runPads.map Pads.int) - 1) * t.fSysKHz ≤
    clocksOf c * Config.timerInputMaxKHz t.supply
  timer1 : ∀ now : Bool,
    (edgesTo now (s.pads.pc.getLsbD 5) (inp.runPads.map fun p => p.pc.getLsbD 5) - 1) * t.fSysKHz ≤
      clocksOf c * Config.timerInputMaxKHz t.supply
  wdtOscAtMost : t.lastsAtLeast c ((inp.runOsc - 1) * t.wdtOscUs * 1000)
  wdtOscAtLeast : t.lastsLessThan c ((inp.runOsc + 1) * t.wdtOscUs * 1000)

/-! ### The clock on OSC2 (60_exceptions.md R248, 70_reset_and_hazards.md R275) -/

/-- What is on the OSC2 pin. -/
inductive Osc2 where
  /-- The system clock divided by 4, one period for every instruction cycle. -/
  | instructionClock
  /-- RC mode in HALT, which stops the system clock (R241). -/
  | stopped
  /-- Crystal mode: the pin belongs to the crystal. -/
  | crystal
deriving DecidableEq, Repr

/-- What the part puts on OSC2; that it stands still in HALT is DEDUCED from R241 (log 39). -/
def State.osc2 (s : State) : Osc2 :=
  match s.oscillator with
  | .crystal => .crystal
  | .rc => if s.halted then .stopped else .instructionClock

/-- The frequency of the instruction clock on OSC2, in Hz: F_SYS divided by 4 (R248). -/
def Timing.osc2Hz (t : Timing) : Nat := t.fSysKHz * 1000 / Config.clocksPerCycle

end Sys2Proof.Machine
end

