-- ==== Sys2Proof/Safety.lean ====
section
/-! DEFINITION. The words the statements are written in: the invariant of the machine, and what an instruction leaves as it
was, field by field (the frame). -/

namespace Sys2Proof.Machine

/-! ### The invariant -/

/-- What holds of every state between two steps. -/
structure Invariant (s : State) : Prop where
  /-- RAM is in its canonical form. -/
  ramCanonical : Memory.wf s.ram = true
  /-- Program memory is in its canonical form. -/
  romCanonical : Memory.romWf s.rom = true
  /-- OP10 and OP11 are 0 (00_scope.md R7). -/
  optionsLegal : s.badOption = false
  /-- No timer runs in the unused mode (60_exceptions.md R221). -/
  timer0Mode : s.tmr0.onInUnusedMode = false
  timer1Mode : s.tmr1.onInUnusedMode = false
  /-- A timer that is off measures nothing (60_exceptions.md R224: `idle` while TON = 0). -/
  timer0Idle : s.tmr0.ton = false → s.tmr0.phase = .idle
  timer1Idle : s.tmr1.ton = false → s.tmr1.phase = .idle
  /-- Between two instructions no counter is being read (60_exceptions.md R228). -/
  timer0Clock : s.tmr0.blocked = false
  timer1Clock : s.tmr1.blocked = false
  /-- An enabled watchdog has not reached its time-out (60_exceptions.md R214). -/
  watchdogBelow : s.wdtDisabled = true ∨ s.wdt < s.wdtLimit
  /-- In HALT, PD = 1 and TO = 0 (45_table_misc.md R181, 60_exceptions.md R243). -/
  haltFlags : s.halted = true → s.flagPD = true ∧ s.flagTO = false
  /-- The next power-on has another number than the last one, so that no two are assumed to give the same RAM (10_state.md
  R54). -/
  freshDraw : s.ramDraw < s.draws

/-! ### Frames -/

/-- The stack is the same, level by level. -/
structure SameStack (s t : State) : Prop where
  stk0 : t.stk0 = s.stk0
  stk1 : t.stk1 = s.stk1
  stk2 : t.stk2 = s.stk2
  stk3 : t.stk3 = s.stk3
  sp : t.sp = s.sp

/-- MP0, MP1, TBLP and WDTS are the same. -/
structure SamePointers (s t : State) : Prop where
  mp0 : t.mp0 = s.mp0
  mp1 : t.mp1 = s.mp1
  tblp : t.tblp = s.tblp
  wdts : t.wdts = s.wdts

/-- C, AC, Z and OV are the same. -/
structure SameFlags (s t : State) : Prop where
  c : t.flagC = s.flagC
  ac : t.flagAC = s.flagAC
  z : t.flagZ = s.flagZ
  ov : t.flagOV = s.flagOV

/-- INTC is the same, bit by bit. -/
structure SameIntc (s t : State) : Prop where
  emi : t.emi = s.emi
  eei : t.eei = s.eei
  et0i : t.et0i = s.et0i
  et1i : t.et1i = s.et1i
  eif : t.eif = s.eif
  t0f : t.t0f = s.t0f
  t1f : t.t1f = s.t1f

/-- The control register, the counter, the preload register and the phase of a timer are the same. -/
structure SameTimer {w : Nat} (s t : Timer w) : Prop where
  tm1 : t.tm1 = s.tm1
  tm0 : t.tm0 = s.tm0
  ton : t.ton = s.ton
  te : t.te = s.te
  cnt : t.cnt = s.cnt
  pre : t.pre = s.pre
  phase : t.phase = s.phase

/-- The output latches and the control registers of the ports are the same. -/
structure SamePorts (s t : State) : Prop where
  paLatch : t.paLatch = s.paLatch
  pbLatch : t.pbLatch = s.pbLatch
  pcLatch : t.pcLatch = s.pcLatch
  pdLatch : t.pdLatch = s.pdLatch
  pac : t.pac = s.pac
  pbc : t.pbc = s.pbc
  pcc : t.pcc = s.pcc
  pdc : t.pdc = s.pdc

/-- The watchdog, its pre-clear flags, PD and TO are the same. -/
structure SameWatchdog (s t : State) : Prop where
  wdt : t.wdt = s.wdt
  wf1 : t.wf1 = s.wf1
  wf2 : t.wf2 = s.wf2
  flagPD : t.flagPD = s.flagPD
  flagTO : t.flagTO = s.flagTO

/-- The two PROMs, the HALT state, the pads and the coming inputs are the same. -/
structure SameWorld (s t : State) : Prop where
  rom : t.rom = s.rom
  opt : t.opt = s.opt
  halted : t.halted = s.halted
  pads : t.pads = s.pads
  lastInt : t.lastInt = s.lastInt
  lastPa : t.lastPa = s.lastPa
  lastTmr1 : t.lastTmr1 = s.lastTmr1
  elapsed : t.elapsed = s.elapsed
  ramDraw : t.ramDraw = s.ramDraw
  inputs : t.inputs = s.inputs

/-- Every byte of general purpose data memory reads as before. -/
def SameRam (s t : State) : Prop := ∀ a : Nat, t.ramByte a = s.ramByte a

/-- What an instruction without a memory destination leaves as it was; ACC, the flags, TBLH, the stack, the program counter
and what a read of an operand does (`ReadEffect`) are said beside it. -/
structure RegisterFrame (s t : State) : Prop where
  pointers : SamePointers s t
  intc : SameIntc s t
  timer0 : SameTimer s.tmr0 t.tmr0
  timer1 : SameTimer s.tmr1 t.tmr1
  ports : SamePorts s t
  world : SameWorld s t
  ram : SameRam s t
  draws : t.draws = s.draws

/-- The low byte buffer of timer 0 once `[m]` has been read, if the instruction reads it (20_memory.md R63). -/
def bufferAfter (s : State) (m : Byte) (reads : Bool) : Byte :=
  if reads = true ∧ s.resolve m = some 0x0C#8 then s.tmr0.cnt.extractLsb' 0 8 else s.lowbuf0

/-- What reading `[m]` does beside giving a byte (20_memory.md R63). -/
structure ReadEffect (s : State) (m : Byte) (t : State) : Prop where
  lowbuf0 : t.lowbuf0 = bufferAfter s m true
  blocked0 : t.tmr0.blocked = decide (s.resolve m = some 0x0C#8)
  blocked1 : t.tmr1.blocked = decide (s.resolve m = some 0x10#8)

/-- No operand of data memory is read. -/
structure NoReadEffect (s t : State) : Prop where
  lowbuf0 : t.lowbuf0 = s.lowbuf0
  blocked0 : t.tmr0.blocked = false
  blocked1 : t.tmr1.blocked = false

/-- Execution goes on at the next word (10_state.md R22), after one cycle. -/
structure GoesOn (s t : State) : Prop where
  pc : t.pc = s.pc + 1
  cyc : t.cyc = 1

/-- Execution goes on at the next word, or skips it (44_branch.md R155). -/
structure SkipsWhen (skip : Prop) (s t : State) : Prop where
  taken : skip → t.pc = s.pc + 2 ∧ t.cyc = 2
  not_taken : ¬ skip → t.pc = s.pc + 1 ∧ t.cyc = 1

/-- An instruction whose result goes to ACC: everything but ACC, C, AC, Z and OV. -/
structure AccFrame (s t : State) : Prop where
  stack : SameStack s t
  watchdog : SameWatchdog s t
  tblh : t.tblh = s.tblh
  rest : RegisterFrame s t

/-- The two arithmetic facts behind OV: the exact signed value does not fit in eight bits. -/
def outOfSignedRange (n : Int) : Bool := decide (n < -128 ∨ 127 < n)

/-- An instruction without a memory operand whose effect is in the program counter, the stack and the cycles: everything else
is as in `s`. -/
structure OnlyControl (s t : State) : Prop where
  acc : t.acc = s.acc
  flags : SameFlags s t
  watchdog : SameWatchdog s t
  tblh : t.tblh = s.tblh
  rest : RegisterFrame s t
  read : NoReadEffect s t

/-- A skip instruction: it reads `[m]`, and everything but ACC, the program counter and the cycles is as in `s`. -/
structure OnlyTests (s : State) (m : Byte) (t : State) : Prop where
  flags : SameFlags s t
  watchdog : SameWatchdog s t
  tblh : t.tblh = s.tblh
  stack : SameStack s t
  rest : RegisterFrame s t
  read : ReadEffect s m t

/-! ### The stack (10_state.md R25 to R27) -/

/-- Stack level `k`. -/
def State.level (s : State) (k : Nat) : Addr :=
  if k = 0 then s.stk0 else if k = 1 then s.stk1 else if k = 2 then s.stk2 else s.stk3

/-- `Push(v)` (R26): the next level, or on a full stack the top one, with the oldest lost. -/
structure Pushed (s : State) (v : Addr) (t : State) : Prop where
  depth : t.sp.val = if s.sp.val < 4 then s.sp.val + 1 else 4
  level : s.sp.val < 4 → ∀ k, k < 4 → t.level k = if k = s.sp.val then v else s.level k
  overflow : s.sp.val = 4 → ∀ k, k < 4 → t.level k = if k = 3 then v else s.level (k + 1)

/-- `Pop()` (R27): the address pushed last; the vacated level keeps its bits. -/
structure Popped (s : State) (v : Addr) (t : State) : Prop where
  depth : t.sp.val = s.sp.val - 1
  address : v = s.level (s.sp.val - 1)
  levels : ∀ k, t.level k = s.level k

/-! ### Memory destinations -/

/-- The pulse width phase of a timer after software writes TON = `ton` where TON was `was` (60_exceptions.md R224, log 17). -/
def phaseAfterWrite (ton was : Bool) (phase : PulsePhase) : PulsePhase :=
  match ton, was with
  | false, _ => .idle
  | true, false => .armed
  | true, true => phase

/-- `MemWrite(m, 1, v)` (20_memory.md R64), register by register: `t` is `s` with `v` written to the cell that `[m]` names in
`s`, and nothing else written. `reads`: the instruction has read `[m]` before. The four flags are said by `StatusWrite`, the
cycles and TBLH beside it. -/
structure Stored (s : State) (m v : Byte) (reads : Bool) (t : State) : Prop where
  acc : t.acc = if s.resolve m = some 0x05#8 then v else s.acc
  pc : t.pc = if s.resolve m = some 0x06#8 then (s.pc + 1).extractLsb' 8 4 ++ v else s.pc + 1
  mp0 : t.mp0 = if s.resolve m = some 0x01#8 then v else s.mp0
  mp1 : t.mp1 = if s.resolve m = some 0x03#8 then v else s.mp1
  tblp : t.tblp = if s.resolve m = some 0x07#8 then v else s.tblp
  wdts : t.wdts = if s.resolve m = some 0x09#8 then v else s.wdts
  emi : t.emi = if s.resolve m = some 0x0B#8 then v.getLsbD 0 else s.emi
  eei : t.eei = if s.resolve m = some 0x0B#8 then v.getLsbD 1 else s.eei
  et0i : t.et0i = if s.resolve m = some 0x0B#8 then v.getLsbD 2 else s.et0i
  et1i : t.et1i = if s.resolve m = some 0x0B#8 then v.getLsbD 3 else s.et1i
  eif : t.eif = if s.resolve m = some 0x0B#8 then v.getLsbD 4 else s.eif
  t0f : t.t0f = if s.resolve m = some 0x0B#8 then v.getLsbD 5 else s.t0f
  t1f : t.t1f = if s.resolve m = some 0x0B#8 then v.getLsbD 6 else s.t1f
  lowbuf0 : t.lowbuf0 = if s.resolve m = some 0x0D#8 then v else bufferAfter s m reads
  pre0 : t.tmr0.pre = if s.resolve m = some 0x0C#8 then v ++ bufferAfter s m reads else s.tmr0.pre
  cnt0 : t.tmr0.cnt =
    if s.resolve m = some 0x0C#8 ∧ s.tmr0.ton = false then v ++ bufferAfter s m reads else s.tmr0.cnt
  tm1_0 : t.tmr0.tm1 = if s.resolve m = some 0x0E#8 then v.getLsbD 7 else s.tmr0.tm1
  tm0_0 : t.tmr0.tm0 = if s.resolve m = some 0x0E#8 then v.getLsbD 6 else s.tmr0.tm0
  ton0 : t.tmr0.ton = if s.resolve m = some 0x0E#8 then v.getLsbD 4 else s.tmr0.ton
  te0 : t.tmr0.te = if s.resolve m = some 0x0E#8 then v.getLsbD 3 else s.tmr0.te
  pre1 : t.tmr1.pre = if s.resolve m = some 0x10#8 then v else s.tmr1.pre
  cnt1 : t.tmr1.cnt = if s.resolve m = some 0x10#8 ∧ s.tmr1.ton = false then v else s.tmr1.cnt
  tm1_1 : t.tmr1.tm1 = if s.resolve m = some 0x11#8 then v.getLsbD 7 else s.tmr1.tm1
  tm0_1 : t.tmr1.tm0 = if s.resolve m = some 0x11#8 then v.getLsbD 6 else s.tmr1.tm0
  ton1 : t.tmr1.ton = if s.resolve m = some 0x11#8 then v.getLsbD 4 else s.tmr1.ton
  te1 : t.tmr1.te = if s.resolve m = some 0x11#8 then v.getLsbD 3 else s.tmr1.te
  /-- Software setting TON arms a pulse width measurement and clearing it makes it idle (60_exceptions.md R224); a write that
  leaves TON at 1 keeps the phase (log 17, DESIGN CHOICE). -/
  phase0 : t.tmr0.phase =
    if s.resolve m = some 0x0E#8 then phaseAfterWrite (v.getLsbD 4) s.tmr0.ton s.tmr0.phase else s.tmr0.phase
  phase1 : t.tmr1.phase =
    if s.resolve m = some 0x11#8 then phaseAfterWrite (v.getLsbD 4) s.tmr1.ton s.tmr1.phase else s.tmr1.phase
  blocked0 : t.tmr0.blocked = (reads && decide (s.resolve m = some 0x0C#8))
  blocked1 : t.tmr1.blocked = (reads && decide (s.resolve m = some 0x10#8))
  paLatch : t.paLatch = if s.resolve m = some 0x12#8 then v else s.paLatch
  pac : t.pac = if s.resolve m = some 0x13#8 then v else s.pac
  pbLatch : t.pbLatch = if s.resolve m = some 0x14#8 then v else s.pbLatch
  pbc : t.pbc = if s.resolve m = some 0x15#8 then v else s.pbc
  pcLatch : t.pcLatch = if s.resolve m = some 0x16#8 then v else s.pcLatch
  pcc : t.pcc = if s.resolve m = some 0x17#8 then v else s.pcc
  pdLatch : t.pdLatch = if s.resolve m = some 0x18#8 then v else s.pdLatch
  pdc : t.pdc = if s.resolve m = some 0x19#8 then v else s.pdc
  /-- The byte of RAM that `[m]` names, if it names one, is `v`. -/
  ramWritten : ∀ a : Byte, s.resolve m = some a → 0x60 ≤ a.toNat → t.ramByte a.toNat = v
  /-- Every other byte of RAM reads as before. -/
  ramOther : ∀ a : Nat, (∀ b : Byte, s.resolve m = some b → a ≠ b.toNat) → t.ramByte a = s.ramByte a
  stack : SameStack s t
  watchdog : SameWatchdog s t
  world : SameWorld s t

/-- The cycles of an instruction that takes `c` of them and writes `[m]`: one more where `[m]` is PCL
(70_reset_and_hazards.md R268). -/
def cyclesOfStore (s : State) (m : Byte) (c : Nat) : Nat := if s.resolve m = some 0x06#8 then c + 1 else c

/-- One flag of STATUS after an instruction. `data` is the bit written to it where STATUS is the destination, `rule` the
value the instruction's own flag rule gives it, if it gives one. Both together is 10_state.md R38: one of the two. -/
def FlagAfter (data rule : Option Bool) (old new : Bool) : Prop :=
  match data, rule with
  | none, none => new = old
  | none, some r => new = r
  | some d, none => new = d
  | some d, some r => new = d ∨ new = r

/-- Bit `k` of `v`, where `[m]` is STATUS. -/
def statusData (s : State) (m v : Byte) (k : Nat) : Option Bool :=
  if s.resolve m = some 0x0A#8 then some (v.getLsbD k) else none

/-- C, AC, Z and OV after an instruction that writes `v` to `[m]` and whose own rule gives `c`, `ac`, `z`, `ov`. -/
structure StatusWrite (s : State) (m v : Byte) (c ac z ov : Option Bool) (t : State) : Prop where
  c : FlagAfter (statusData s m v 0) c s.flagC t.flagC
  ac : FlagAfter (statusData s m v 1) ac s.flagAC t.flagAC
  z : FlagAfter (statusData s m v 2) z s.flagZ t.flagZ
  ov : FlagAfter (statusData s m v 3) ov s.flagOV t.flagOV

/-- An instruction of one cycle that writes `v` to `[m]`, with the flags its rule gives, and does nothing else. -/
structure StoresTo (s : State) (m v : Byte) (reads : Bool) (c ac z ov : Option Bool) (t : State) : Prop where
  store : Stored s m v reads t
  status : StatusWrite s m v c ac z ov t
  cyc : t.cyc = cyclesOfStore s m 1
  tblh : t.tblh = s.tblh

/-! ### The watchdog oscillator (00_scope.md R9, 60_exceptions.md R214) -/

/-- `n` whole periods of the WDT oscillator, each within the bounds of `f`, can pass in `us` microseconds. -/
def oscPeriodsFit (f : Config.Figure) (us n : Nat) : Prop :=
  n * f.least ≤ us ∧ us < (n + 1) * f.greatest

/-! ### Results -/

/-- ACC and the four flags after an addition of `b` and the carry `c` to ACC: the exact sum says everything (00_scope.md R15,
40_arithmetic.md R100: C is the unsigned carry, OV the signed overflow). -/
structure SumInAcc (s : State) (b : Byte) (c : Bool) (t : State) : Prop where
  acc : t.acc.toNat = (s.acc.toNat + b.toNat + c.toNat) % 256
  carry : t.flagC = decide (255 < s.acc.toNat + b.toNat + c.toNat)
  aux : t.flagAC = decide (15 < s.acc.toNat % 16 + b.toNat % 16 + c.toNat)
  zero : t.flagZ = decide (t.acc = 0#8)
  overflow : t.flagOV = outOfSignedRange (s.acc.toInt + b.toInt + c.toNat)

/-- ACC and the four flags after a subtraction of `b` and `borrow` from ACC: C and AC are 1 where no borrow takes place
(10_state.md R36, 40_arithmetic.md R100). -/
structure DifferenceInAcc (s : State) (b : Byte) (borrow : Bool) (t : State) : Prop where
  acc : (t.acc.toNat : Int) = ((s.acc.toNat : Int) - b.toNat - borrow.toNat) % 256
  carry : t.flagC = decide (b.toNat + borrow.toNat ≤ s.acc.toNat)
  aux : t.flagAC = decide (b.toNat % 16 + borrow.toNat ≤ s.acc.toNat % 16)
  zero : t.flagZ = decide (t.acc = 0#8)
  overflow : t.flagOV = outOfSignedRange (s.acc.toInt - b.toInt - borrow.toNat)

/-- `t` holds the sum of ACC, `b` and `c` in `[m]`, with the four flags of the sum. -/
def SumStored (s : State) (m b : Byte) (c : Bool) (t : State) : Prop :=
  StoresTo s m (BitVec.ofNat 8 (s.acc.toNat + b.toNat + c.toNat)) true
    (some (decide (255 < s.acc.toNat + b.toNat + c.toNat)))
    (some (decide (15 < s.acc.toNat % 16 + b.toNat % 16 + c.toNat)))
    (some (decide ((s.acc.toNat + b.toNat + c.toNat) % 256 = 0)))
    (some (outOfSignedRange (s.acc.toInt + b.toInt + c.toNat))) t

/-- `t` holds ACC less `b` less `borrow` in `[m]`, with the four flags of the difference. -/
def DifferenceStored (s : State) (m b : Byte) (borrow : Bool) (t : State) : Prop :=
  StoresTo s m (BitVec.ofInt 8 ((s.acc.toNat : Int) - b.toNat - borrow.toNat)) true
    (some (decide (b.toNat + borrow.toNat ≤ s.acc.toNat)))
    (some (decide (b.toNat % 16 + borrow.toNat ≤ s.acc.toNat % 16)))
    (some (decide (((s.acc.toNat : Int) - b.toNat - borrow.toNat) % 256 = 0)))
    (some (outOfSignedRange (s.acc.toInt - b.toInt - borrow.toNat))) t

/-- `t` holds `r` in `[m]`, Z says whether `r` is zero, and no other flag is written by the rule. -/
def ZeroFlagStored (s : State) (m r : Byte) (t : State) : Prop :=
  StoresTo s m r true none none (some (decide (r = 0#8))) none t

/-- `t` holds `r` in ACC and Z says whether `r` is zero; C, AC and OV are unchanged. -/
structure ZeroFlagInAcc (s : State) (r : Byte) (t : State) : Prop where
  acc : t.acc = r
  z : t.flagZ = decide (r = 0#8)
  c : t.flagC = s.flagC
  ac : t.flagAC = s.flagAC
  ov : t.flagOV = s.flagOV

/-- `t` holds `r` in ACC and C = `c`; AC, Z and OV are unchanged. -/
structure CarryInAcc (s : State) (r : Byte) (c : Bool) (t : State) : Prop where
  acc : t.acc = r
  c : t.flagC = c
  ac : t.flagAC = s.flagAC
  z : t.flagZ = s.flagZ
  ov : t.flagOV = s.flagOV

/-- The instruction has read `[m]`, put its result in ACC, and goes on; nothing but ACC and the four flags is new. -/
structure AccFromMemory (s : State) (m : Byte) (t : State) : Prop where
  frame : AccFrame s t
  read : ReadEffect s m t
  next : GoesOn s t

/-- The same of an instruction with an immediate operand. -/
structure AccFromImmediate (s t : State) : Prop where
  frame : AccFrame s t
  read : NoReadEffect s t
  next : GoesOn s t

/-! ### DAA (40_arithmetic.md R111) -/

/-- The Operation block of DAA on numbers: `lo`, `hi` the nibbles of ACC, `ac1` the internal carry; the byte and C. -/
def daaBlockNat (hi lo : Nat) (ac c : Bool) (ac1 : Nat) : Nat × Bool :=
  (16 * ((if hi > 9 ∨ c then hi + 6 + ac1 else hi + ac1) % 16) + (if lo > 9 ∨ ac then lo + 6 else lo) % 16,
    decide (hi > 9) || c)

/-- AC1 as the Operation block computes it. -/
def daaAc1Nat (lo : Nat) (ac : Bool) : Nat := if lo > 9 ∨ ac then 1 - ac.toNat else 0

/-- The value of two decimal digits. -/
def decimalOf (b : Byte) : Nat := 10 * (b.toNat / 16) + b.toNat % 16

/-- Both nibbles are decimal digits. -/
def isDecimal (b : Byte) : Prop := b.toNat / 16 ≤ 9 ∧ b.toNat % 16 ≤ 9

/-! ### Resets (70_reset_and_hazards.md R255 to R258) -/

/-- What no reset but power-on changes: the columns (2) to (5) of 10_state.md R52 where they say `u`, and R53. -/
structure ResetKeeps (s t : State) : Prop where
  acc : t.acc = s.acc
  mp0 : t.mp0 = s.mp0
  mp1 : t.mp1 = s.mp1
  tblp : t.tblp = s.tblp
  tblh : t.tblh = s.tblh
  flags : SameFlags s t
  cnt0 : t.tmr0.cnt = s.tmr0.cnt
  pre0 : t.tmr0.pre = s.tmr0.pre
  lowbuf0 : t.lowbuf0 = s.lowbuf0
  cnt1 : t.tmr1.cnt = s.tmr1.cnt
  pre1 : t.tmr1.pre = s.tmr1.pre
  stk0 : t.stk0 = s.stk0
  stk1 : t.stk1 = s.stk1
  stk2 : t.stk2 = s.stk2
  stk3 : t.stk3 = s.stk3
  rom : t.rom = s.rom
  opt : t.opt = s.opt
  ram : SameRam s t

/-- What every chip reset sets (R252, R254): the program counter, the stack pointer, INTC, WDTS, the timers' control registers
(08H), the ports, the watchdog, and the end of HALT. -/
structure ChipResetSets (t : State) : Prop where
  pc : t.pc = 0x000
  sp : t.sp = 0
  intc : t.intcByte = 0x00#8
  wdts : t.wdts = 0x07#8
  tmr0c : t.tmr0.controlByte = 0x08#8
  tmr1c : t.tmr1.controlByte = 0x08#8
  paLatch : t.paLatch = 0xFF#8
  pbLatch : t.pbLatch = 0xFF#8
  pcLatch : t.pcLatch = 0xFF#8
  pdLatch : t.pdLatch = 0xFF#8
  pac : t.pac = 0xFF#8
  pbc : t.pbc = 0xFF#8
  pcc : t.pcc = 0xFF#8
  pdc : t.pdc = 0xFF#8
  wdt : t.wdt = 0
  halted : t.halted = false

/-! ### Interrupt entry (60_exceptions.md R190) -/

/-- `t` is `s` after the entry of source `k`: the program counter pushed, the vector, EMI and the one request flag cleared, and
nothing else changed. -/
structure InterruptTaken (s : State) (k : Source) (t : State) : Prop where
  pushed : Pushed s s.pc t
  pc : t.pc = match k with
    | .external => 0x004
    | .timer0 => 0x008
    | .timer1 => 0x00C
  emi : t.emi = false
  enables : t.eei = s.eei ∧ t.et0i = s.et0i ∧ t.et1i = s.et1i
  requests : match k with
    | .external => t.eif = false ∧ t.t0f = s.t0f ∧ t.t1f = s.t1f
    | .timer0 => t.eif = s.eif ∧ t.t0f = false ∧ t.t1f = s.t1f
    | .timer1 => t.eif = s.eif ∧ t.t0f = s.t0f ∧ t.t1f = false
  cycles : 1 ≤ t.cyc
  acc : t.acc = s.acc
  flags : SameFlags s t
  watchdog : SameWatchdog s t
  tblh : t.tblh = s.tblh
  pointers : SamePointers s t
  timer0 : SameTimer s.tmr0 t.tmr0
  timer1 : SameTimer s.tmr1 t.tmr1
  lowbuf0 : t.lowbuf0 = s.lowbuf0
  ports : SamePorts s t
  world : SameWorld s t
  ram : SameRam s t

/-! ### The time of an instruction or entry (60_exceptions.md R201 step 6) -/

/-- What the watchdog's count becomes when `s.cyc` cycles and the periods of `inp` pass (R214). -/
def State.wdtAfter (s : State) (inp : Input) : Nat := s.wdt + (if s.opt.getLsbD 12 then s.cyc else inp.runOsc)

/-- The watchdog does not time out in that time: it is disabled, or its count stays below 256 times the ratio (R212, R214). -/
def State.noTimeOut (s : State) (inp : Input) : Prop :=
  s.opt.getLsbD 13 = true ∨ s.wdtAfter inp < 256 * 2 ^ (s.wdts.toNat % 8)

/-- `n` counts reached a timer: they moved its count, and the overflow that they may bring set its request flag. A read of the
counter by the instruction may have cost one count (R228; log 13). -/
def Counted {w : Nat} (n : Nat) (s t : Timer w) (flag flag' : Bool) : Prop :=
  ∃ loss, loss ≤ 1 ∧ (s.blocked = false → loss = 0) ∧ t.cnt = (countUp s.pre (n - loss) s.cnt).1 ∧
    flag' = (flag || (countUp s.pre (n - loss) s.cnt).2)

/-- A timer `s` with the request flag `flag` becomes `t` with `flag'` while `c` cycles pass and then the level at its input,
which was `old`, takes `levels` in turn; `run` is whether TON was 1 before and after the instruction (log 16; the cycles come
first: log 19). -/
structure TimerPassed {w : Nat} (run old : Bool) (levels : List Bool) (c : Nat) (s t : Timer w) (flag flag' : Bool) : Prop where
  /-- The control register but for TON, and the preload register, are kept; no read is in progress any more. -/
  kept : t.tm1 = s.tm1 ∧ t.tm0 = s.tm0 ∧ t.te = s.te ∧ t.pre = s.pre ∧ t.blocked = false
  off : run = false → t = { s with blocked := false } ∧ flag' = flag
  /-- Timer mode: one count for each cycle, whatever the level does (R222). -/
  timer : run = true → s.mode = .timer → Counted c s t flag flag' ∧ t.ton = s.ton ∧ t.phase = s.phase
  /-- Event count mode: one count for each active edge, rising with TE = 0 and falling with TE = 1 (R223). -/
  events : run = true → s.mode = .eventCount →
    Counted (edgesTo (!s.te) old levels) s t flag flag' ∧ t.ton = s.ton ∧ t.phase = s.phase
  /-- An armed pulse width measurement counts none of the cycles; it waits for a start edge, to the level TE, then counts
  until the next edge, which turns the timer off (R224). -/
  armed : run = true → s.mode = .pulseWidth → s.phase = .armed → t.cnt = s.cnt ∧ flag' = flag ∧
    (edgesTo s.te old levels = 0 → t.phase = .armed ∧ t.ton = s.ton) ∧
    (0 < edgesTo s.te old levels → edgesTo (!s.te) old levels = (decide (old = s.te)).toNat →
      t.phase = .counting ∧ t.ton = s.ton) ∧
    ((decide (old = s.te)).toNat < edgesTo (!s.te) old levels → t.phase = .idle ∧ t.ton = false)
  /-- A measurement in progress counts the cycles, and the first edge away from the level TE turns the timer off (R224). -/
  counting : run = true → s.mode = .pulseWidth → s.phase = .counting → Counted c s t flag flag' ∧
    (edgesTo (!s.te) old levels = 0 → t.phase = .counting ∧ t.ton = s.ton) ∧
    (0 < edgesTo (!s.te) old levels → t.phase = .idle ∧ t.ton = false)

/-! ### Waking up (60_exceptions.md R241 to R247) -/

/-- A timer while the machine sleeps: only its count can move, and only in event count mode (R229). That an edge moves neither
TON nor the phase of a pulse width measurement is log 18 (DEDUCED). -/
structure TimerAsleep {w : Nat} (s t : Timer w) : Prop where
  same : { t with cnt := s.cnt } = s
  count : s.mode ≠ .eventCount → t.cnt = s.cnt

/-- `u` is the sleeping machine `s` awake, after the pads went to `p` and before it goes on: everything is as `s` had it, but
what the pads can do to the timers' counts (log 18) and the request flags, the edge detectors' memory (TMR1 is PC5 or its
latch: log 20), the input taken and the time (log 22). -/
structure Woken (s : State) (p : Pads) (u : State) : Prop where
  halted : u.halted = false
  pc : u.pc = s.pc
  acc : u.acc = s.acc
  flags : SameFlags s u
  watchdog : SameWatchdog s u
  stack : SameStack s u
  pointers : SamePointers s u
  tblh : u.tblh = s.tblh
  lowbuf0 : u.lowbuf0 = s.lowbuf0
  enables : u.emi = s.emi ∧ u.eei = s.eei ∧ u.et0i = s.et0i ∧ u.et1i = s.et1i
  /-- An INT falling edge sets EIF (R186), and nothing clears a request flag. -/
  eif : u.eif = (s.eif || (s.lastInt && !p.int))
  t0f : s.t0f = true → u.t0f = true
  t1f : s.t1f = true → u.t1f = true
  timer0 : TimerAsleep s.tmr0 u.tmr0
  timer1 : TimerAsleep s.tmr1 u.tmr1
  ports : SamePorts s u
  rom : u.rom = s.rom
  opt : u.opt = s.opt
  ram : SameRam s u
  pads : u.pads = p ∧ u.lastInt = p.int ∧ u.lastPa = p.pa
  lastTmr1 : u.lastTmr1 = if s.pcc.getLsbD 5 then p.pc.getLsbD 5 else s.pcLatch.getLsbD 5
  draws : u.draws = s.draws ∧ u.ramDraw = s.ramDraw
  inputs : u.inputs = s.inputs.tail
  cyc : u.cyc = 0
  /-- The delay of R247: 1024 t_SYS, 256 cycles, with a crystal, and one cycle more before an interrupt entry (log 22). -/
  elapsed : u.elapsed = s.elapsed + (if s.opt.getLsbD 8 then 256 else 0) + u.acknowledged.isSome.toNat

/-- The step of `s` goes on as `u` does (R201 steps 3 to 6): with the entry of the source that can be acknowledged, else with
the instruction at the program counter of `u`. -/
structure ContinuesAs (s u : State) : Prop where
  entry : ∀ k : Source, u.acknowledged = some k → ∃ t, InterruptTaken u k t ∧ step s = t.finish s.input u
  instruction : ∀ i : Instr, u.acknowledged = none → decode (u.progRead u.pc) = .ok i →
    step s = match exec i u with
      | .next t => t.finish s.input u
      | .fault f => .fault f
      | .refused r => .refused r

/-- The step of a sleeping machine in which the environment keeps power and RES, and in which the pads go to `p` and no
period of the WDT oscillator passes. -/
structure SleepsWith (s : State) (p : Pads) : Prop where
  invariant : Invariant s
  halted : s.halted = true
  power : s.input.power = false
  res : s.input.res = false
  pads : s.input.sleepPads = [p]
  osc : s.input.sleepOsc = 0

end Sys2Proof.Machine
end

