-- ==== Sys2Proof/Certificates/Slice0/Obligations.lean ====
section
/-! DEFINITION. The statements for the provers. Each docstring names the rule of spec/ it formalises. A state is any state, also
one that no run reaches, unless a hypothesis says otherwise. -/

open Sys2Proof Sys2Proof.Machine

/-! ### Encoding -/

/-- R86 to R91 (SPEC-ENC, the spec's own choice D1; log 1): decoding the encoding of a well-formed instruction gives it
back. -/
def Obligations.DecodeOfEncode : Prop :=
  ∀ i : Instr, i.wellFormed = true → decode (encode i) = .ok i

/-- R86, R94 (D1; log 1): a word that decodes to an instruction is the encoding of it, and the instruction is well-formed, so
no bit of the word is dropped. So SPEC-ENC is an ENCODING as R10, R85 and D1 ask for one: injective on terms, with the
address of JMP and CALL in bits 11..0. -/
def Obligations.EncodeOfDecode : Prop :=
  (∀ (w : Word) (i : Instr), decode w = .ok i → i.wellFormed = true ∧ encode i = w) ∧ LegalEncoding specEncoding

/-- R92 (D1, D2; log 1): the words that are no instruction are 0007H..00FFH, 2C00H..2FFFH and 3700H..3FFFH. -/
def Obligations.ReservedWordsExactly : Prop :=
  ∀ w : Word, (∃ r, decode w = .error r) ↔
    (0x0007 ≤ w.toNat ∧ w.toNat ≤ 0x00FF) ∨ (0x2C00 ≤ w.toNat ∧ w.toNat ≤ 0x2FFF) ∨
      (0x3700 ≤ w.toNat ∧ w.toNat ≤ 0x3FFF)

/-- Words written out from the encodings of R87 to R91 decode to the instructions they stand for, one or two of each
family. -/
def Obligations.WrittenWordsDecode : Prop :=
  decode 0b000_0000_0000_0000#15 = .ok .nop ∧
  decode 0b000_0000_0000_0110#15 = .ok .reti ∧
  decode 0b000_0001_0110_0000#15 = .ok (.addAM 0x60) ∧
  decode 0b000_1100_0110_0001#15 = .ok (.xorAM 0x61) ∧
  decode 0b001_1101_0110_0000#15 = .ok (.rlcM 0x60) ∧
  decode 0b001_1111_0110_0001#15 = .ok (.movMA 0x61) ∧
  decode 0b010_0110_0110_0000#15 = .ok (.tabrdcM 0x60) ∧
  decode 0b011_0101_1000_0000#15 = .ok (.movAX 0x80) ∧
  decode 0b100_0011_0110_0000#15 = .ok (.clrMI 0x60#8 3) ∧
  decode 0b101_1011_0001_0010#15 = .ok (.snzMI 0x12 3) ∧
  decode 0b110_0000_0001_0000#15 = .ok (.jmp 0x010) ∧
  decode 0b111_0001_0000_0000#15 = .ok (.call 0x100)

/-! ### The step -/

/-- R68, R201: outside HALT, with no reset, no power cycle and no interrupt to acknowledge, a step runs the instruction that
the word at the program counter decodes to, on the state with this step's input taken, and then lets its time pass
(`State.finish`); with no input to come, that state is the state itself. The same of every other encoding (R10; the step
takes SPEC-ENC: log 1), under which a word without an instruction is refused (R92). -/
def Obligations.StepRunsDecodedInstruction : Prop :=
  (∀ (s : State) (i : Instr), s.badOption = false → s.input.power = false → s.input.res = false → s.halted = false →
    s.acknowledged = none → decode (s.progRead s.pc) = .ok i →
      i.wellFormed = true ∧
      (step s = match exec i s.inputTaken with
        | .next t => t.finish s.input s.inputTaken
        | .fault f => .fault f
        | .refused r => .refused r) ∧
      (s.inputs = [] → s.inputTaken = s ∧ s.input = Input.quiet)) ∧
  ∀ (e : Encoding) (s : State), s.badOption = false → s.input.power = false → s.input.res = false → s.halted = false →
    s.acknowledged = none →
      (∀ i, e (s.progRead s.pc) = some i → s.cycle e = match exec i s.inputTaken with
        | .next t => t.finish s.input s.inputTaken
        | .fault f => .fault f
        | .refused r => .refused r) ∧
      (e (s.progRead s.pc) = none → s.cycle e = .refused .reservedInstruction)

/-- R92, R7, R221, R184 (D2, D25, D14; the model's stops, logs 1, 33 and 30): a step that would run a reserved word is refused
by name; with OP10 or OP11 set every step is; and the time of an instruction that leaves a timer on in the unused mode is. -/
def Obligations.StepRefusals : Prop :=
  (∀ s : State, s.badOption = false → s.input.power = false → s.input.res = false → s.halted = false →
    s.acknowledged = none → (∃ r, decode (s.progRead s.pc) = .error r) → step s = .refused .reservedInstruction) ∧
  (∀ s : State, s.opt.getLsbD 10 = true ∨ s.opt.getLsbD 11 = true → step s = .refused .badOption) ∧
  ∀ (s before : State) (inp : Input),
    (s.tmr0.ton = true ∧ s.tmr0.mode = .unused) ∨ (s.tmr1.ton = true ∧ s.tmr1.mode = .unused) →
      s.finish inp before = .refused .timerModeUnused

/-- A whole step (R68, R173, R201): a NOP with the timers and the watchdog off moves the program counter by one and counts one
cycle; an INT level that has fallen sets EIF and the edge detectors follow the present levels; nothing else changes. -/
def Obligations.NopStepWithDevicesOff : Prop :=
  ∀ s : State, s.badOption = false → s.inputs = [] → s.halted = false → s.emi = false →
    s.progRead s.pc = 0x0000#15 → s.tmr0.ton = false → s.tmr1.ton = false → s.wdtDisabled = true →
    s.tmr0.blocked = false → s.tmr1.blocked = false →
      step s = .next { s with
        pc := s.pc + 1, cyc := 1, elapsed := s.elapsed + 1, eif := s.eif || (s.lastInt && !s.pads.int)
        lastInt := s.pads.int, lastPa := s.pads.pa, lastTmr1 := s.tmr1Level s.pads }

/-! ### What holds of the whole machine -/

/-- The invariant (Safety.lean) is kept by every step, from every state that has it: the canonical forms, R221 (no timer runs
in the unused mode), R224 (`idle` while TON = 0), R214 (an enabled watchdog is below its time-out), R181 and R243 (PD = 1 and
TO = 0 in HALT), R54 (the next power-on has a fresh number; the numbering is log 9). -/
def Obligations.StepKeepsInvariant : Prop :=
  ∀ s t : State, Invariant s → step s = .next t → Invariant t

/-- The state after reset has the invariant. -/
def Obligations.ResetHasInvariant : Prop := Invariant State.reset

/-- R254, R253, R251, R221, R259: the state after power-on reset, where the spec gives the value. That `halted` is false and the
watchdog counter 0 is R53 (D19); that `elapsed` is 256, the start-up delay of R259, is the model's own field (log 22); the rest
of `State.reset` is the model's choice (log 4). -/
def Obligations.ResetState : Prop :=
  ChipResetSets State.reset ∧ State.reset.flagTO = false ∧ State.reset.flagPD = false ∧
    State.reset.tmr0.mode = .unused ∧ State.reset.tmr1.mode = .unused ∧
    State.reset.tmr0.ton = false ∧ State.reset.tmr1.ton = false ∧ State.reset.tmr0.te = true ∧
    State.reset.tmr1.te = true ∧ State.reset.elapsed = 256

/-- R67, R71: no step changes program memory or the option word. -/
def Obligations.PromsNeverChange : Prop :=
  ∀ s t : State, step s = .next t → t.rom = s.rom ∧ t.opt = s.opt

/-- R170, R25, R70, R34: over the whole instruction set, TO and PD are changed only by CLR WDT, CLR WDT1, CLR WDT2 and HALT,
the stack only by CALL, RET, RET A,x and RETI, and TBLH only by TABRDC and TABRDL. -/
def Obligations.OnlyTheseChange : Prop :=
  ∀ (i : Instr) (s t : State), exec i s = .next t →
    ((i ≠ .clrWdt ∧ i ≠ .clrWdt1 ∧ i ≠ .clrWdt2 ∧ i ≠ .halt) → t.flagTO = s.flagTO ∧ t.flagPD = s.flagPD) ∧
    (((∀ a, i ≠ .call a) ∧ i ≠ .ret ∧ (∀ x, i ≠ .retAX x) ∧ i ≠ .reti) → SameStack s t) ∧
    (((∀ m, i ≠ .tabrdcM m) ∧ ∀ m, i ≠ .tabrdlM m) → t.tblh = s.tblh)

/-- R184 (D6, D23; logs 24, 32), R183: an instruction stops exactly where it returns from an empty stack or is SIZ or SDZ of
PCL; everywhere else it answers a next state. -/
def Obligations.InstructionsStopExactlyHere : Prop :=
  ∀ (i : Instr) (s : State), (∃ t, exec i s = .next t) ↔
    ¬ (s.sp = 0 ∧ (i = .ret ∨ i = .reti ∨ ∃ x, i = .retAX x)) ∧
    ¬ ∃ m, s.resolve m = some 0x06#8 ∧ (i = .sizM m ∨ i = .sdzM m)

/-! ### Operands -/

/-- R62: `Resolve(m)`, direct for every `m` but 00H and 02H, through MP0 and MP1 for those, and no second indirection: there a
read gives 00H and a write does nothing. -/
def Obligations.OperandResolution : Prop :=
  (∀ (s : State) (m : Byte), m ≠ 0x00#8 → m ≠ 0x02#8 → s.resolve m = some m) ∧
  (∀ s : State, s.mp0 ≠ 0x00#8 → s.mp0 ≠ 0x02#8 → s.resolve 0x00#8 = some s.mp0 ∧ s.memRead 0x00#8 = s.memRead s.mp0 ∧
    ∀ v, s.memWrite 0x00#8 v = s.memWrite s.mp0 v) ∧
  (∀ s : State, s.mp1 ≠ 0x00#8 → s.mp1 ≠ 0x02#8 → s.resolve 0x02#8 = some s.mp1 ∧ s.memRead 0x02#8 = s.memRead s.mp1 ∧
    ∀ v, s.memWrite 0x02#8 v = s.memWrite s.mp1 v) ∧
  (∀ s : State, s.mp0 = 0x00#8 ∨ s.mp0 = 0x02#8 → s.resolve 0x00#8 = none ∧ s.memRead 0x00#8 = 0x00 ∧
    ∀ v, s.memWrite 0x00#8 v = s) ∧
  (∀ s : State, s.mp1 = 0x00#8 ∨ s.mp1 = 0x02#8 → s.resolve 0x02#8 = none ∧ s.memRead 0x02#8 = 0x00 ∧
    ∀ v, s.memWrite 0x02#8 v = s)

/-- R63: what each data address reads as while an instruction executes (`s.pc` then holds npc), bit by bit for the registers
with named bits. -/
def Obligations.RegistersRead : Prop :=
  ∀ s : State,
    s.memRead 0x01#8 = s.mp0 ∧ s.memRead 0x03#8 = s.mp1 ∧ s.memRead 0x05#8 = s.acc ∧
    s.memRead 0x06#8 = BitVec.ofNat 8 s.pc.toNat ∧ s.memRead 0x07#8 = s.tblp ∧
    (s.memRead 0x08#8).toNat = s.tblh.toNat ∧ s.memRead 0x09#8 = s.wdts ∧
    (s.memRead 0x0A#8).toNat = s.flagC.toNat + 2 * s.flagAC.toNat + 4 * s.flagZ.toNat + 8 * s.flagOV.toNat +
      16 * s.flagPD.toNat + 32 * s.flagTO.toNat ∧
    (s.memRead 0x0B#8).toNat = s.emi.toNat + 2 * s.eei.toNat + 4 * s.et0i.toNat + 8 * s.et1i.toNat +
      16 * s.eif.toNat + 32 * s.t0f.toNat + 64 * s.t1f.toNat ∧
    (s.memRead 0x0C#8).toNat = s.tmr0.cnt.toNat / 256 ∧ s.memRead 0x0D#8 = s.lowbuf0 ∧
    (s.memRead 0x0E#8).toNat = 8 * s.tmr0.te.toNat + 16 * s.tmr0.ton.toNat + 64 * s.tmr0.tm0.toNat +
      128 * s.tmr0.tm1.toNat ∧
    s.memRead 0x10#8 = s.tmr1.cnt ∧
    (s.memRead 0x11#8).toNat = 8 * s.tmr1.te.toNat + 16 * s.tmr1.ton.toNat + 64 * s.tmr1.tm0.toNat +
      128 * s.tmr1.tm1.toNat ∧
    s.memRead 0x13#8 = s.pac ∧ s.memRead 0x15#8 = s.pbc ∧ s.memRead 0x17#8 = s.pcc ∧ s.memRead 0x19#8 = s.pdc ∧
    (∀ m : Byte, m = 0x04#8 ∨ m = 0x0F#8 ∨ (0x1A ≤ m.toNat ∧ m.toNat ≤ 0x5F) → s.memRead m = 0x00#8) ∧
    (∀ m : Byte, 0x60 ≤ m.toNat → s.memRead m = s.ramByte m.toNat)

/-- R231: a port reads, bit by bit, the pad where the control bit is 1 and the latch where it is 0. -/
def Obligations.PortsRead : Prop :=
  ∀ (s : State) (i : Nat), i < 8 →
    (s.memRead 0x12#8).getLsbD i = (if s.pac.getLsbD i then s.pads.pa.getLsbD i else s.paLatch.getLsbD i) ∧
    (s.memRead 0x14#8).getLsbD i = (if s.pbc.getLsbD i then s.pads.pb.getLsbD i else s.pbLatch.getLsbD i) ∧
    (s.memRead 0x16#8).getLsbD i = (if s.pcc.getLsbD i then s.pads.pc.getLsbD i else s.pcLatch.getLsbD i) ∧
    (s.memRead 0x18#8).getLsbD i = (if s.pdc.getLsbD i then s.pads.pd.getLsbD i else s.pdLatch.getLsbD i)

/-- R63, R64, R34, R37, R40, R42, R47 (the reserved addresses and the stored request flags: D7, D10, logs 25, 27): what a byte
written to an address then reads as: itself in the read/write cells, its stored bits in STATUS, INTC, TMR0C and TMR1C, 00H at
reserved addresses, and nothing new at TBLH. -/
def Obligations.WrittenByteReadsBack : Prop :=
  ∀ (s : State) (m v : Byte), Memory.wf s.ram = true →
    ((0x60 ≤ m.toNat ∨ m = 0x01#8 ∨ m = 0x03#8 ∨ m = 0x05#8 ∨ m = 0x07#8 ∨ m = 0x09#8 ∨ m = 0x0D#8 ∨ m = 0x13#8 ∨ m = 0x15#8 ∨
      m = 0x17#8 ∨ m = 0x19#8) → (s.memWrite m v).memRead m = v) ∧
    (m = 0x0A#8 → (s.memWrite m v).memRead m = (v &&& 0x0F) ||| (s.memRead m &&& 0x30)) ∧
    (m = 0x0B#8 → (s.memWrite m v).memRead m = v &&& 0x7F) ∧
    (m = 0x0E#8 ∨ m = 0x11#8 → (s.memWrite m v).memRead m = v &&& 0xD8) ∧
    (m = 0x08#8 → (s.memWrite m v).memRead m = s.memRead m) ∧
    (m = 0x04#8 ∨ m = 0x0F#8 ∨ (0x1A ≤ m.toNat ∧ m.toNat ≤ 0x5F) → s.memWrite m v = s)

/-! ### Arithmetic -/

/-- R101, R103, R104 with R100: ADD A,[m], ADD A,x and ADC A,[m] put the sum in ACC and write all four flags; nothing else
changes, and their words are 0100H + m, 3000H + x and 0300H + m. -/
def Obligations.AdditionToAcc : Prop :=
  ∀ (s : State) (m : Byte),
    ((∃ t, exec (.addAM m) s = .next t ∧ SumInAcc s (s.fetched.memRead m) false t ∧ AccFromMemory s m t) ∧
      (encode (.addAM m)).toNat = 0x0100 + m.toNat) ∧
    ((∃ t, exec (.addAX m) s = .next t ∧ SumInAcc s m false t ∧ AccFromImmediate s t) ∧
      (encode (.addAX m)).toNat = 0x3000 + m.toNat) ∧
    ((∃ t, exec (.adcAM m) s = .next t ∧ SumInAcc s (s.fetched.memRead m) s.flagC t ∧ AccFromMemory s m t) ∧
      (encode (.adcAM m)).toNat = 0x0300 + m.toNat)

/-- R106, R107, R109 with R100: SUB A,x, SUB A,[m] and SBC A,[m] put the difference in ACC, SBC subtracting one more exactly
when C = 0; C = 1 means no borrow; nothing else changes, and their words are 3100H + x, 0500H + m and 0700H + m. -/
def Obligations.SubtractionToAcc : Prop :=
  ∀ (s : State) (m : Byte),
    ((∃ t, exec (.subAX m) s = .next t ∧ DifferenceInAcc s m false t ∧ AccFromImmediate s t) ∧
      (encode (.subAX m)).toNat = 0x3100 + m.toNat) ∧
    ((∃ t, exec (.subAM m) s = .next t ∧ DifferenceInAcc s (s.fetched.memRead m) false t ∧ AccFromMemory s m t) ∧
      (encode (.subAM m)).toNat = 0x0500 + m.toNat) ∧
    ((∃ t, exec (.sbcAM m) s = .next t ∧ DifferenceInAcc s (s.fetched.memRead m) (!s.flagC) t ∧ AccFromMemory s m t) ∧
      (encode (.sbcAM m)).toNat = 0x0700 + m.toNat)

/-- R102, R105 with R64, R65 and R100 (STATUS as destination: R38, D9, log 11; reserved addresses: D7, log 25; the phase of a
timer at TMRnC: log 17): ADDM A,[m] and ADCM A,[m] put the sum in [m] and write all four flags; no cell but [m] changes. -/
def Obligations.AdditionToMemory : Prop :=
  ∀ (s : State) (m : Byte), Memory.wf s.ram = true →
    (∃ t, exec (.addmAM m) s = .next t ∧ SumStored s m (s.fetched.memRead m) false t) ∧
    (∃ t, exec (.adcmAM m) s = .next t ∧ SumStored s m (s.fetched.memRead m) s.flagC t)

/-- R108, R110 with R64, R65 and R100 (STATUS as destination: R38, D9, log 11; reserved addresses: D7, log 25; the phase of a
timer at TMRnC: log 17): SUBM A,[m] and SBCM A,[m] put ACC minus memory in [m] and write all four flags; no cell but [m]
changes. -/
def Obligations.SubtractionToMemory : Prop :=
  ∀ (s : State) (m : Byte), Memory.wf s.ram = true →
    (∃ t, exec (.submAM m) s = .next t ∧ DifferenceStored s m (s.fetched.memRead m) false t) ∧
    (∃ t, exec (.sbcmAM m) s = .next t ∧ DifferenceStored s m (s.fetched.memRead m) (!s.flagC) t)

/-- R111 outside the bands B1 and B2 (STATUS as destination: R38, D9, log 11; reserved addresses: D7, log 25; the phase of a
timer at TMRnC: log 17): DAA [m] writes the byte of the Operation block to [m], which it does not read, and C; no other flag
and no other cell changes. -/
def Obligations.DaaOutsideBands : Prop :=
  ∀ (s : State) (m : Byte), Memory.wf s.ram = true →
    ¬ (s.acc.toNat / 16 = 9 ∧ 9 < s.acc.toNat % 16 ∧ s.flagAC = false ∧ s.flagC = false) →
    ¬ (9 < s.acc.toNat % 16 ∧ s.flagAC = true) →
      ∃ t, exec (.daaM m) s = .next t ∧
        StoresTo s m
          (BitVec.ofNat 8 (daaBlockNat (s.acc.toNat / 16) (s.acc.toNat % 16) s.flagAC s.flagC
            (daaAc1Nat (s.acc.toNat % 16) s.flagAC)).1)
          false
          (some (daaBlockNat (s.acc.toNat / 16) (s.acc.toNat % 16) s.flagAC s.flagC
            (daaAc1Nat (s.acc.toNat % 16) s.flagAC)).2)
          none none none t

/-- R111, 90_conflicts C5 (D26; the candidates are the model's reading, log 12; where [m] is STATUS, reserved or TMRnC: logs
11, 25, 17): in band B1 DAA gives the byte of the Operation block with C = 0 or the decimal-correct byte with C = 1; in band
B2 one of the bytes that AC1 = 0 (the block), AC1 = 1 (the prose) and AC1 = 1 counted before the test against 9 give, with its
C. It stores the byte in [m] and changes no other flag and no other cell. -/
def Obligations.DaaInsideBands : Prop :=
  (∀ (s : State) (m : Byte), Memory.wf s.ram = true →
    s.acc.toNat / 16 = 9 → 9 < s.acc.toNat % 16 → s.flagAC = false → s.flagC = false →
      ∃ t, exec (.daaM m) s = .next t ∧
        (StoresTo s m (BitVec.ofNat 8 (0xA0 + (s.acc.toNat % 16 - 10))) false (some false) none none none t ∨
          StoresTo s m (BitVec.ofNat 8 (s.acc.toNat % 16 - 10)) false (some true) none none none t)) ∧
  ∀ (s : State) (m : Byte), Memory.wf s.ram = true → 9 < s.acc.toNat % 16 → s.flagAC = true →
      ∃ t, exec (.daaM m) s = .next t ∧ ∃ (v : Byte) (c : Bool),
        StoresTo s m v false (some c) none none none t ∧
        v.toNat % 16 = s.acc.toNat % 16 - 10 ∧
        ((v.toNat / 16 = (s.acc.toNat / 16 + if 9 < s.acc.toNat / 16 ∨ s.flagC then 6 else 0) % 16 ∧
            c = (decide (9 < s.acc.toNat / 16) || s.flagC)) ∨
          (v.toNat / 16 = (s.acc.toNat / 16 + 1 + if 9 < s.acc.toNat / 16 ∨ s.flagC then 6 else 0) % 16 ∧
            c = (decide (9 < s.acc.toNat / 16) || s.flagC)) ∨
          (v.toNat / 16 = (s.acc.toNat / 16 + 1 + if 8 < s.acc.toNat / 16 ∨ s.flagC then 6 else 0) % 16 ∧
            c = (decide (8 < s.acc.toNat / 16) || s.flagC)))

/-- What DAA is for (R101, R103, R111): after the addition of two decimal bytes it gives their decimal sum in ACC and the
hundreds in C, wherever the sum of the binary addition is not in band B1 (tens that add up to 9 with units that add up to
10 to 15). -/
def Obligations.DecimalAddition : Prop :=
  ∀ (s t : State) (x : Byte), isDecimal s.acc → isDecimal x →
    ¬ (s.acc.toNat / 16 + x.toNat / 16 = 9 ∧ 10 ≤ s.acc.toNat % 16 + x.toNat % 16 ∧
      s.acc.toNat % 16 + x.toNat % 16 ≤ 15) →
    exec (.addAX x) s = .next t →
      ∃ u, exec (.daaM 0x05#8) t = .next u ∧ isDecimal u.acc ∧
        decimalOf u.acc + 100 * u.flagC.toNat = decimalOf s.acc + decimalOf x

/-! ### Logic -/

/-- R116 to R118, R122 to R124, R126 with R115: the logic instructions with ACC as destination, bit by bit; Z says whether the
result is zero, C, AC and OV are kept, nothing else changes; and their words. -/
def Obligations.LogicToAcc : Prop :=
  ∀ (s : State) (m : Byte),
    ((∃ t, exec (.andAM m) s = .next t ∧ ZeroFlagInAcc s (s.acc &&& s.fetched.memRead m) t ∧ AccFromMemory s m t) ∧
      (encode (.andAM m)).toNat = 0x0A00 + m.toNat) ∧
    ((∃ t, exec (.orAM m) s = .next t ∧ ZeroFlagInAcc s (s.acc ||| s.fetched.memRead m) t ∧ AccFromMemory s m t) ∧
      (encode (.orAM m)).toNat = 0x0B00 + m.toNat) ∧
    ((∃ t, exec (.xorAM m) s = .next t ∧ ZeroFlagInAcc s (s.acc ^^^ s.fetched.memRead m) t ∧ AccFromMemory s m t) ∧
      (encode (.xorAM m)).toNat = 0x0C00 + m.toNat) ∧
    ((∃ t, exec (.andAX m) s = .next t ∧ ZeroFlagInAcc s (s.acc &&& m) t ∧ AccFromImmediate s t) ∧
      (encode (.andAX m)).toNat = 0x3200 + m.toNat) ∧
    ((∃ t, exec (.orAX m) s = .next t ∧ ZeroFlagInAcc s (s.acc ||| m) t ∧ AccFromImmediate s t) ∧
      (encode (.orAX m)).toNat = 0x3300 + m.toNat) ∧
    ((∃ t, exec (.xorAX m) s = .next t ∧ ZeroFlagInAcc s (s.acc ^^^ m) t ∧ AccFromImmediate s t) ∧
      (encode (.xorAX m)).toNat = 0x3400 + m.toNat) ∧
    ((∃ t, exec (.cplaM m) s = .next t ∧ ZeroFlagInAcc s (255 - s.fetched.memRead m) t ∧ AccFromMemory s m t) ∧
      (encode (.cplaM m)).toNat = 0x1100 + m.toNat)

/-- R119 to R121, R125 with R64, R65 and R115 (STATUS as destination: R38, D9, log 11; reserved addresses: D7, log 25; the
phase of a timer at TMRnC: log 17): ANDM, ORM, XORM and CPL put the result in [m]; Z is taken from the result as computed; no
other flag and no cell but [m] changes. -/
def Obligations.LogicToMemory : Prop :=
  ∀ (s : State) (m : Byte), Memory.wf s.ram = true →
    (∃ t, exec (.andmAM m) s = .next t ∧ ZeroFlagStored s m (s.acc &&& s.fetched.memRead m) t) ∧
    (∃ t, exec (.ormAM m) s = .next t ∧ ZeroFlagStored s m (s.acc ||| s.fetched.memRead m) t) ∧
    (∃ t, exec (.xormAM m) s = .next t ∧ ZeroFlagStored s m (s.acc ^^^ s.fetched.memRead m) t) ∧
    (∃ t, exec (.cplM m) s = .next t ∧ ZeroFlagStored s m (255 - s.fetched.memRead m) t)

/-! ### Increment, decrement, rotate, swap -/

/-- R131, R133 with R130: INCA and DECA put the value plus or minus one, modulo 256, in ACC and write Z; C, AC and OV are
kept, nothing else changes; and their words. -/
def Obligations.IncrementDecrementToAcc : Prop :=
  ∀ (s : State) (m : Byte),
    ((∃ t, exec (.incaM m) s = .next t ∧ AccFromMemory s m t ∧
        ZeroFlagInAcc s (BitVec.ofNat 8 ((s.fetched.memRead m).toNat + 1)) t) ∧
      (encode (.incaM m)).toNat = 0x1200 + m.toNat) ∧
    ((∃ t, exec (.decaM m) s = .next t ∧ AccFromMemory s m t ∧
        ZeroFlagInAcc s (BitVec.ofNat 8 ((s.fetched.memRead m).toNat + 255)) t) ∧
      (encode (.decaM m)).toNat = 0x1400 + m.toNat)

/-- R132, R134 with R64, R65 and R130 (STATUS as destination: R38, D9, log 11; reserved addresses: D7, log 25; the phase of a
timer at TMRnC: log 17): INC and DEC put the value plus or minus one, modulo 256, in [m] and write Z; no other flag and no
cell but [m] changes. -/
def Obligations.IncrementDecrementInMemory : Prop :=
  ∀ (s : State) (m : Byte), Memory.wf s.ram = true →
    (∃ t, exec (.incM m) s = .next t ∧ ZeroFlagStored s m (BitVec.ofNat 8 ((s.fetched.memRead m).toNat + 1)) t) ∧
    (∃ t, exec (.decM m) s = .next t ∧ ZeroFlagStored s m (BitVec.ofNat 8 ((s.fetched.memRead m).toNat + 255)) t)

/-- R135, R137, R139, R141, R180 with R130: RRA and RLA rotate the byte, RRCA and RLCA the byte with C, SWAPA exchanges the
nibbles, all into ACC; only the rotates through carry write a flag, C; nothing else changes; and their words. -/
def Obligations.RotateToAcc : Prop :=
  ∀ (s : State) (m : Byte),
    ((∃ t, exec (.rraM m) s = .next t ∧ AccFromMemory s m t ∧ CarryInAcc s ((s.fetched.memRead m).rotateRight 1) s.flagC t) ∧
      (encode (.rraM m)).toNat = 0x1600 + m.toNat) ∧
    ((∃ t, exec (.rlaM m) s = .next t ∧ AccFromMemory s m t ∧ CarryInAcc s ((s.fetched.memRead m).rotateLeft 1) s.flagC t) ∧
      (encode (.rlaM m)).toNat = 0x1A00 + m.toNat) ∧
    ((∃ t, exec (.rrcaM m) s = .next t ∧ AccFromMemory s m t ∧
        CarryInAcc s (BitVec.ofNat 8 ((s.fetched.memRead m).toNat / 2 + 128 * s.flagC.toNat))
          ((s.fetched.memRead m).getLsbD 0) t) ∧
      (encode (.rrcaM m)).toNat = 0x1800 + m.toNat) ∧
    ((∃ t, exec (.rlcaM m) s = .next t ∧ AccFromMemory s m t ∧
        CarryInAcc s (BitVec.ofNat 8 (2 * (s.fetched.memRead m).toNat + s.flagC.toNat))
          ((s.fetched.memRead m).getLsbD 7) t) ∧
      (encode (.rlcaM m)).toNat = 0x1C00 + m.toNat) ∧
    ((∃ t, exec (.swapaM m) s = .next t ∧ AccFromMemory s m t ∧ CarryInAcc s ((s.fetched.memRead m).rotateLeft 4) s.flagC t) ∧
      (encode (.swapaM m)).toNat = 0x2B00 + m.toNat)

/-- R136, R138, R140, R142, R179 with R64, R65 and R130 (RRC and RLC of STATUS: R38, D9, log 11; reserved addresses: D7, log
25; the phase of a timer at TMRnC: log 17): RR, RL, RRC, RLC and SWAP in memory; only the rotates through carry write a flag
by their rule, C; no cell but [m] changes. -/
def Obligations.RotateInMemory : Prop :=
  ∀ (s : State) (m : Byte), Memory.wf s.ram = true →
    (∃ t, exec (.rrM m) s = .next t ∧
      StoresTo s m ((s.fetched.memRead m).rotateRight 1) true none none none none t) ∧
    (∃ t, exec (.rlM m) s = .next t ∧
      StoresTo s m ((s.fetched.memRead m).rotateLeft 1) true none none none none t) ∧
    (∃ t, exec (.rrcM m) s = .next t ∧
      StoresTo s m (BitVec.ofNat 8 ((s.fetched.memRead m).toNat / 2 + 128 * s.flagC.toNat)) true
        (some ((s.fetched.memRead m).getLsbD 0)) none none none t) ∧
    (∃ t, exec (.rlcM m) s = .next t ∧
      StoresTo s m (BitVec.ofNat 8 (2 * (s.fetched.memRead m).toNat + s.flagC.toNat)) true
        (some ((s.fetched.memRead m).getLsbD 7)) none none none t) ∧
    (∃ t, exec (.swapM m) s = .next t ∧
      StoresTo s m ((s.fetched.memRead m).rotateLeft 4) true none none none none t)

/-! ### Moves and bits -/

/-- R146, R148: MOV A,[m] and MOV A,x load ACC and no flag; nothing else changes but what a read of [m] does; and their
words. -/
def Obligations.LoadAcc : Prop :=
  ∀ (s : State) (m : Byte),
    ((∃ t, exec (.movAM m) s = .next t ∧ AccFromMemory s m t ∧ CarryInAcc s (s.fetched.memRead m) s.flagC t) ∧
      (encode (.movAM m)).toNat = 0x1E00 + m.toNat) ∧
    ((∃ t, exec (.movAX m) s = .next t ∧ AccFromImmediate s t ∧ CarryInAcc s m s.flagC t) ∧
      (encode (.movAX m)).toNat = 0x3500 + m.toNat)

/-- R147, R174, R175 with R64 (reserved addresses: D7, log 25; the phase of a timer at TMRnC: R224, log 17): MOV [m],A stores
ACC, CLR [m] 00H and SET [m] FFH, without reading [m]; STATUS is written as plain data (R37); no cell but [m] changes. -/
def Obligations.PlainStores : Prop :=
  ∀ (s : State) (m : Byte), Memory.wf s.ram = true →
    (∃ t, exec (.movMA m) s = .next t ∧ StoresTo s m s.acc false none none none none t) ∧
    (∃ t, exec (.clrM m) s = .next t ∧ StoresTo s m 0x00#8 false none none none none t) ∧
    (∃ t, exec (.setM m) s = .next t ∧ StoresTo s m 0xFF#8 false none none none none t)

/-- R149, R150 with R64, R65 (reserved addresses: D7, log 25; the phase of a timer at TMRnC: R224, log 17): CLR [m].i and SET
[m].i read the whole byte, put 0 or 1 at bit i and write the byte back: bit i is as named, every other bit as read; no flag
but as STATUS data, and no cell but [m] changes. -/
def Obligations.BitStores : Prop :=
  ∀ (s : State) (m : Byte) (i : Nat), Memory.wf s.ram = true → i < 8 →
    (∃ t v, exec (.clrMI m i) s = .next t ∧ StoresTo s m v true none none none none t ∧
      ∀ k, k < 8 → v.getLsbD k = if k = i then false else (s.fetched.memRead m).getLsbD k) ∧
    (∃ t v, exec (.setMI m i) s = .next t ∧ StoresTo s m v true none none none none t ∧
      ∀ k, k < 8 → v.getLsbD k = if k = i then true else (s.fetched.memRead m).getLsbD k)

/-! ### Control flow -/

/-- R156: JMP addr continues at addr after two cycles and changes nothing else; its word is 6000H + addr. -/
def Obligations.Jump : Prop :=
  ∀ (s : State) (addr : Addr),
    (∃ t, exec (.jmp addr) s = .next t ∧ t.pc = addr ∧ t.cyc = 2 ∧ SameStack s t ∧ OnlyControl s t) ∧
      (encode (.jmp addr)).toNat = 0x6000 + addr.toNat

/-- R173: NOP continues at the next word after one cycle and changes nothing else; its word is 0000H. -/
def Obligations.NoOperation : Prop :=
  ∀ s : State, (∃ t, exec .nop s = .next t ∧ GoesOn s t ∧ SameStack s t ∧ OnlyControl s t) ∧ encode .nop = 0x0000#15

/-- R157 to R160, R163, R164 with R155: the skips that store nothing in memory. Each reads [m] once and skips the next word
exactly when its test holds (two cycles, else one); SZA, SIZA and SDZA put the byte tested in ACC in both cases, the others
keep ACC; no flag and nothing else changes; and their words. -/
def Obligations.Skips : Prop :=
  ∀ (s : State) (m : Byte),
    ((∃ t, exec (.szM m) s = .next t ∧ SkipsWhen (s.fetched.memRead m = 0x00#8) s t ∧ t.acc = s.acc ∧ OnlyTests s m t) ∧
      (encode (.szM m)).toNat = 0x2000 + m.toNat) ∧
    ((∃ t, exec (.szaM m) s = .next t ∧ SkipsWhen (s.fetched.memRead m = 0x00#8) s t ∧
        t.acc = s.fetched.memRead m ∧ OnlyTests s m t) ∧
      (encode (.szaM m)).toNat = 0x2100 + m.toNat) ∧
    (∀ i, i < 8 → (∃ t, exec (.szMI m i) s = .next t ∧ SkipsWhen ((s.fetched.memRead m).getLsbD i = false) s t ∧
        t.acc = s.acc ∧ OnlyTests s m t) ∧
      (encode (.szMI m i)).toNat = 0x5000 + i * 256 + m.toNat) ∧
    (∀ i, i < 8 → (∃ t, exec (.snzMI m i) s = .next t ∧ SkipsWhen ((s.fetched.memRead m).getLsbD i = true) s t ∧
        t.acc = s.acc ∧ OnlyTests s m t) ∧
      (encode (.snzMI m i)).toNat = 0x5800 + i * 256 + m.toNat) ∧
    ((∃ t, exec (.sizaM m) s = .next t ∧ SkipsWhen (s.fetched.memRead m = 0xFF#8) s t ∧
        t.acc = BitVec.ofNat 8 ((s.fetched.memRead m).toNat + 1) ∧ OnlyTests s m t) ∧
      (encode (.sizaM m)).toNat = 0x2400 + m.toNat) ∧
    ((∃ t, exec (.sdzaM m) s = .next t ∧ SkipsWhen (s.fetched.memRead m = 0x01#8) s t ∧
        t.acc = BitVec.ofNat 8 ((s.fetched.memRead m).toNat + 255) ∧ OnlyTests s m t) ∧
      (encode (.sdzaM m)).toNat = 0x2500 + m.toNat)

/-- R161, R162 with R64, R65 (reserved addresses: D7, log 25; the phase of a timer at TMRnC: log 17; the refusal: D23, log
32): SIZ and SDZ put the value plus or minus one in [m] and skip exactly when it is zero, with no flag written but as STATUS
data and no cell but [m]; where [m] is PCL they are refused. -/
def Obligations.SkipsWithStore : Prop :=
  ∀ (s : State) (m : Byte), Memory.wf s.ram = true →
    (s.resolve m ≠ some 0x06#8 →
      (∃ t u, exec (.sizM m) s = .next t ∧ SkipsWhen (s.fetched.memRead m = 0xFF#8) s t ∧
        StoresTo s m (BitVec.ofNat 8 ((s.fetched.memRead m).toNat + 1)) true none none none none u ∧
        t = { u with pc := t.pc, cyc := t.cyc }) ∧
      (∃ t u, exec (.sdzM m) s = .next t ∧ SkipsWhen (s.fetched.memRead m = 0x01#8) s t ∧
        StoresTo s m (BitVec.ofNat 8 ((s.fetched.memRead m).toNat + 255)) true none none none none u ∧
        t = { u with pc := t.pc, cyc := t.cyc })) ∧
    (s.resolve m = some 0x06#8 →
      exec (.sizM m) s = .refused .skipWithPclDestination ∧ exec (.sdzM m) s = .refused .skipWithPclDestination)

/-- R165, R26: CALL addr pushes the address after it, continues at addr after two cycles, and changes nothing else; on a full
stack the oldest address is lost; its word is 7000H + addr. -/
def Obligations.Call : Prop :=
  ∀ (s : State) (addr : Addr),
    (∃ t, exec (.call addr) s = .next t ∧ t.pc = addr ∧ t.cyc = 2 ∧ Pushed s (s.pc + 1) t ∧ OnlyControl s t) ∧
      (encode (.call addr)).toNat = 0x7000 + addr.toNat

/-- R166 to R168, R27 (the stop on an empty stack: D6, log 24): RET, RET A,x and RETI take the address pushed last and continue
there after two cycles; RET A,x also loads ACC, RETI sets EMI; nothing else changes; on an empty stack each stops with
the fault. -/
def Obligations.Returns : Prop :=
  ∀ (s : State) (x : Byte),
    (s.sp ≠ 0 →
      (∃ t, exec .ret s = .next t ∧ Popped s t.pc t ∧ t.cyc = 2 ∧ OnlyControl s t) ∧
      (∃ t, exec (.retAX x) s = .next t ∧ Popped s t.pc t ∧ t.cyc = 2 ∧ OnlyControl { s with acc := x } t) ∧
      (∃ t, exec .reti s = .next t ∧ Popped s t.pc t ∧ t.cyc = 2 ∧ OnlyControl { s with emi := true } t)) ∧
    (s.sp = 0 → exec .ret s = .fault .stackUnderflow ∧ exec (.retAX x) s = .fault .stackUnderflow ∧
      exec .reti s = .fault .stackUnderflow)

/-- R25 to R27, R165, R166: after four nested calls, from whatever depth, four returns come back to the word after each call,
the last call first: the four most recent return addresses are kept. -/
def Obligations.FourCallsReturnInOrder : Prop :=
  ∀ (s t1 t2 t3 t4 : State) (a1 a2 a3 a4 : Addr),
    exec (.call a1) s = .next t1 → exec (.call a2) t1 = .next t2 → exec (.call a3) t2 = .next t3 →
    exec (.call a4) t3 = .next t4 →
      ∃ u1 u2 u3 u4, exec .ret t4 = .next u1 ∧ u1.pc = a3 + 1 ∧ exec .ret u1 = .next u2 ∧ u2.pc = a2 + 1 ∧
        exec .ret u2 = .next u3 ∧ u3.pc = a1 + 1 ∧ exec .ret u3 = .next u4 ∧ u4.pc = s.pc + 1

/-! ### Table reads, the watchdog instructions, HALT -/

/-- R171, R172, R69 with R64 (the page of TABRDC from npc: D3, log 23; reserved addresses: D7, log 25; the phase of a timer at
TMRnC: log 17): TABRDC reads program memory at the page of the next word, TABRDL at page F, both at TBLP; bits 7..0 go to [m],
bits 14..8 to TBLH; two cycles, one more into PCL; no flag but as STATUS data and no cell but [m] changes. -/
def Obligations.TableReads : Prop :=
  ∀ (s : State) (m : Byte) (w : Word), Memory.wf s.ram = true →
    (s.progRead (BitVec.ofNat 12 (256 * ((s.pc + 1).toNat / 256) + s.tblp.toNat)) = w →
      ∃ t, exec (.tabrdcM m) s = .next t ∧ Stored s m (BitVec.ofNat 8 w.toNat) false t ∧
        StatusWrite s m (BitVec.ofNat 8 w.toNat) none none none none t ∧ t.cyc = cyclesOfStore s m 2 ∧
        t.tblh.toNat = w.toNat / 256) ∧
    (s.progRead (BitVec.ofNat 12 (0xF00 + s.tblp.toNat)) = w →
      ∃ t, exec (.tabrdlM m) s = .next t ∧ Stored s m (BitVec.ofNat 8 w.toNat) false t ∧
        StatusWrite s m (BitVec.ofNat 8 w.toNat) none none none none t ∧ t.cyc = cyclesOfStore s m 2 ∧
        t.tblh.toNat = w.toNat / 256)

/-- R176 to R178 (nothing at all where the type is not active or the watchdog is disabled: D17, log 31): CLR WDT, where OP13 = 0
and OP9 = 1, clears the watchdog, PD and TO; CLR WDT1 and CLR WDT2, where OP13 = 0 and OP9 = 0, clear them with both flags
when the other one's flag is set, and else set their own flag; each goes on after one cycle and changes nothing else. -/
def Obligations.WatchdogInstructions : Prop :=
  ∀ s : State,
    (∃ t, exec .clrWdt s = .next t ∧ GoesOn s t ∧ SameStack s t ∧
      if s.opt.getLsbD 13 = false ∧ s.opt.getLsbD 9 = true then
        OnlyControl { s with wdt := 0, flagPD := false, flagTO := false } t
      else OnlyControl s t) ∧
    (∃ t, exec .clrWdt1 s = .next t ∧ GoesOn s t ∧ SameStack s t ∧
      if s.opt.getLsbD 13 = true ∨ s.opt.getLsbD 9 = true then OnlyControl s t
      else if s.wf2 = true then
        OnlyControl { s with wdt := 0, flagPD := false, flagTO := false, wf1 := false, wf2 := false } t
      else OnlyControl { s with wf1 := true } t) ∧
    (∃ t, exec .clrWdt2 s = .next t ∧ GoesOn s t ∧ SameStack s t ∧
      if s.opt.getLsbD 13 = true ∨ s.opt.getLsbD 9 = true then OnlyControl s t
      else if s.wf1 = true then
        OnlyControl { s with wdt := 0, flagPD := false, flagTO := false, wf1 := false, wf2 := false } t
      else OnlyControl { s with wf2 := true } t)

/-- R181: HALT sets PD, clears TO and the watchdog, stops execution after one cycle with the program counter at the next word,
and changes nothing else; its word is 0004H. -/
def Obligations.Halt : Prop :=
  ∀ s : State, (∃ t, exec .halt s = .next t ∧ GoesOn s t ∧ SameStack s t ∧
    OnlyControl { s with flagPD := true, flagTO := false, wdt := 0, halted := true } t) ∧ encode .halt = 0x0004#15

/-! ### Interrupts -/

/-- R189, R191, R28: a source can be acknowledged exactly when EMI, its enable and its request are 1 and the stack is not full;
of those that can, the external interrupt comes before timer 0 and timer 0 before timer 1. -/
def Obligations.AcknowledgeByPriority : Prop :=
  ∀ s : State,
    (s.canAcknowledge .external = true ↔ s.emi = true ∧ s.eei = true ∧ s.eif = true ∧ s.sp.val < 4) ∧
    (s.canAcknowledge .timer0 = true ↔ s.emi = true ∧ s.et0i = true ∧ s.t0f = true ∧ s.sp.val < 4) ∧
    (s.canAcknowledge .timer1 = true ↔ s.emi = true ∧ s.et1i = true ∧ s.t1f = true ∧ s.sp.val < 4) ∧
    (s.acknowledged = some .external ↔ s.canAcknowledge .external = true) ∧
    (s.acknowledged = some .timer0 ↔ s.canAcknowledge .external = false ∧ s.canAcknowledge .timer0 = true) ∧
    (s.acknowledged = some .timer1 ↔
      s.canAcknowledge .external = false ∧ s.canAcknowledge .timer0 = false ∧ s.canAcknowledge .timer1 = true) ∧
    (s.sp.val = 4 → s.acknowledged = none)

/-- R185, R190, R192, R194 (how many cycles is open: D12, log 14): outside HALT, with no reset and no power cycle, a step in
which a source is acknowledged is its entry: the program counter is pushed, the vector taken, EMI and that one request
cleared, nothing else changed, and the time of the entry passes. -/
def Obligations.InterruptEntry : Prop :=
  ∀ (s : State) (k : Source), s.badOption = false → s.input.power = false → s.input.res = false → s.halted = false →
    s.acknowledged = some k →
      ∃ t, InterruptTaken s.inputTaken k t ∧ step s = t.finish s.input s.inputTaken

/-- R28, R166 to R168, R189, R191, R192, R195, R197 (taken at the very next boundary: D11, log 28): of whichever of the three
sources would be acknowledged with EMI set and room on the stack, nothing is acknowledged while the stack is full or EMI is 0;
RET and RET A,x let it in, from a full stack too, if EMI is set, and do not if EMI is 0; RETI lets it in, whatever EMI was. -/
def Obligations.ReturnsReleaseInterrupts : Prop :=
  ∀ (s t : State) (k : Source), State.acknowledged { s with emi := true, sp := 0 } = some k →
    (s.sp.val = 4 ∨ s.emi = false → s.acknowledged = none) ∧
    (∀ i : Instr, (i = .ret ∨ ∃ x, i = .retAX x) → exec i s = .next t →
      (s.emi = true → t.acknowledged = some k) ∧ (s.emi = false → t.acknowledged = none)) ∧
    (exec .reti s = .next t → t.acknowledged = some k)

/-! ### Resets -/

/-- R256, R257, R251, R255 (that RES takes the whole step is the order of R201, which the spec marks as derived: log 3; the pads
in it: log 8): a step in which RES is low is the chip reset; TO and PD are kept in normal operation and become 0 and 1 in HALT;
what the reset table marks u is kept; no start-up delay is added; the inputs then read what the environment put on the pads
last. -/
def Obligations.ResReset : Prop :=
  ∀ s : State, s.badOption = false → s.input.power = false → s.input.res = true →
    ∃ t, step s = .next t ∧ ChipResetSets t ∧ ResetKeeps s t ∧ t.elapsed = s.elapsed ∧
      (s.halted = false → t.flagTO = s.flagTO ∧ t.flagPD = s.flagPD) ∧
      (s.halted = true → t.flagTO = false ∧ t.flagPD = true) ∧
      t.pads = s.input.runPads.getLastD s.pads ∧ t.lastInt = s.lastInt ∧ t.lastPa = s.lastPa ∧
      t.lastTmr1 = s.lastTmr1

/-- R212, R214, R215, R219, R255, R201 (the instant of the time-out: D16, logs 21 and 36): the watchdog in the time of an
instruction or entry that began in `before`, left `s` and took s.cyc cycles, in which inp.runOsc oscillator periods pass.
Disabled, it does nothing: its count and TO are kept. Else it adds what it counts, cycles with OP12 = 1 and periods with OP12
= 0; below 256 times 2 to the power WDTS[2:0] that is all it does, the next state being otherwise the one with the watchdog
disabled; from there on it makes the chip reset with TO = 1 and PD kept, which keeps the timers' counts as that time left
them. The same of the watchdog alone. -/
def Obligations.WatchdogTimeOut : Prop :=
  (∀ (s : State) (osc n : Nat), n = s.wdt + (if s.opt.getLsbD 12 then s.cyc else osc) →
    (s.opt.getLsbD 13 = true → s.runWatchdog osc = s) ∧
    (s.opt.getLsbD 13 = false → n < 256 * 2 ^ (s.wdts.toNat % 8) → s.runWatchdog osc = { s with wdt := n }) ∧
    (s.opt.getLsbD 13 = false → 256 * 2 ^ (s.wdts.toNat % 8) ≤ n →
      ∃ t, s.runWatchdog osc = t ∧ ChipResetSets t ∧ ResetKeeps s t ∧ t.flagTO = true ∧ t.flagPD = s.flagPD)) ∧
  ∀ (s before : State) (inp : Input), s.tmr0.onInUnusedMode = false → s.tmr1.onInUnusedMode = false →
    (s.opt.getLsbD 13 = true → ∃ t, s.finish inp before = .next t ∧ t.wdt = s.wdt ∧ t.flagTO = s.flagTO ∧ t.pc = s.pc) ∧
    (s.opt.getLsbD 13 = false → ∃ t u, s.finish inp before = .next t ∧
      State.finish { s with opt := s.opt ||| 0x2000#14 } inp before = .next u ∧
      (s.wdtAfter inp < 256 * 2 ^ (s.wdts.toNat % 8) → t = { u with opt := s.opt, wdt := s.wdtAfter inp }) ∧
      (256 * 2 ^ (s.wdts.toNat % 8) ≤ s.wdtAfter inp →
        ChipResetSets t ∧ t.flagTO = true ∧ t.flagPD = s.flagPD ∧
        t.tmr0.cnt = u.tmr0.cnt ∧ t.tmr1.cnt = u.tmr1.cnt ∧
        ResetKeeps
          { s with tmr0 := { s.tmr0 with cnt := t.tmr0.cnt }, tmr1 := { s.tmr1 with cnt := t.tmr1.cnt } } t ∧
        t.elapsed = s.elapsed + s.cyc))

/-- R258, R216, R245, R251: a watchdog time-out in HALT sets TO and PD, resets the program counter and the stack pointer, clears
the watchdog, ends HALT, and keeps every other register, here with no change of a pad before it. -/
def Obligations.WarmReset : Prop :=
  ∀ s : State, Invariant s → s.input.power = false → s.input.res = false → s.halted = true → s.input.sleepPads = [] →
    s.opt.getLsbD 13 = false → s.opt.getLsbD 12 = false →
    256 * 2 ^ (s.wdts.toNat % 8) ≤ s.wdt + s.input.sleepOsc →
      ∃ t, step s = .next t ∧ t.pc = 0x000 ∧ t.sp = 0 ∧ t.flagTO = true ∧ t.flagPD = true ∧ t.wdt = 0 ∧
        t.halted = false ∧ ResetKeeps s t ∧ t.wdts = s.wdts ∧ SameIntc s t ∧ SameTimer s.tmr0 t.tmr0 ∧
        SameTimer s.tmr1 t.tmr1 ∧ SamePorts s t

/-- R254, R251, R259, R67, R54, R232 (a power cycle as an input of the step: log 3; the pads in it: log 8): power-on sets what
the chip resets set, with TO = PD = 0; it keeps the two PROMs, and adds the start-up delay of 1024 system clocks, 256 cycles;
every byte of RAM is the free value of this power-on, whose number the next one no longer has (logs 5, 9); the inputs then
read what the environment put on the pads last. -/
def Obligations.PowerOnReset : Prop :=
  ∀ s : State, s.badOption = false → s.input.power = true →
    ∃ t, step s = .next t ∧ ChipResetSets t ∧ t.flagTO = false ∧ t.flagPD = false ∧ t.rom = s.rom ∧ t.opt = s.opt ∧
      t.elapsed = s.elapsed + 256 ∧ (∀ a, t.ramByte a = Config.powerOnRam s.draws a) ∧ t.draws = s.draws + 1 ∧
      t.pads = s.input.runPads.getLastD s.pads

/-- R9, R214 (D16, log 21): with the oscillator as its clock, on each part and at each supply for which R9 gives its period, the
watchdog cannot time out before 256 times the ratio times the least period has passed since it was cleared, and must have timed
out when that many of the greatest period have passed, normal operation and HALT alike. -/
def Obligations.OscillatorTimeOutBounds : Prop :=
  ∀ (s : State) (part : Config.Variant) (v : Config.Supply) (f : Config.Figure) (us n : Nat),
    Config.wdtOscUs part v = some f → s.opt.getLsbD 13 = false → s.opt.getLsbD 12 = false →
    oscPeriodsFit f us (s.wdt + n) →
      (us < 256 * 2 ^ (s.wdts.toNat % 8) * f.least →
        s.runWatchdog n = { s with wdt := s.wdt + n } ∧ s.sleepTimeOut n = false) ∧
      (256 * 2 ^ (s.wdts.toNat % 8) * f.greatest ≤ us →
        (s.runWatchdog n).pc = 0x000 ∧ (s.runWatchdog n).flagTO = true ∧ s.sleepTimeOut n = true)

/-! ### HALT and waking up -/

/-- R241 (what the pads did in the cycle of HALT itself is no event: log 38): in HALT, with no event from the environment and
no request pending, a step changes nothing (but the cycle count of the last instruction, which is 0). -/
def Obligations.SleepsWithoutEvents : Prop :=
  ∀ s : State, Invariant s → s.halted = true → s.inputs = [] → s.eif = false → s.t0f = false → s.t1f = false →
    step s = .next { s with cyc := 0 }

/-- R242, R243, R247, R201 (whatever PAC says: log 35; the order: log 3; of what goes on, edges in HALT move no pulse width
measurement: log 18; TMR1 is PC5 or its latch: log 20; the time: log 22): in HALT, a falling edge on a line of port A whose
option bit is 1 ends HALT, and the same step goes on at the next instruction of the same program, or with an entry where a
source can be acknowledged, from the state that HALT retained (`Woken`), with TO and PD as HALT left them; falling edges on
lines whose option bit is 0 alone do not. -/
def Obligations.PortAWakeUp : Prop :=
  ∀ (s : State) (p : Pads), SleepsWith s p →
    ((∃ i, i < 8 ∧ s.lastPa.getLsbD i = true ∧ p.pa.getLsbD i = false ∧ s.opt.getLsbD i = true) →
      ∃ u : State, Woken s p u ∧ ContinuesAs s u ∧ u.flagTO = false ∧ u.flagPD = true) ∧
    ((∀ i, i < 8 → s.lastPa.getLsbD i = true → p.pa.getLsbD i = false → s.opt.getLsbD i = false) →
      ¬ (s.lastInt = true ∧ p.int = false) → s.tmr0.ton = false → s.tmr1.ton = false →
      s.eif = false → s.t0f = false → s.t1f = false →
        ∃ t, step s = .next t ∧ t.halted = true ∧ t.pc = s.pc ∧ t.pads = p ∧ t.flagTO = false ∧ t.flagPD = true)

/-- R186, R242, R244, R247, R201 (an edge wakes also where EIF is already set: log 35; the order: log 3; of what goes on,
edges in HALT move no pulse width measurement: log 18; TMR1 is PC5 or its latch: log 20; the time: log 22): in HALT, a falling
edge on INT sets EIF and ends HALT whatever the enable bits hold, and the same step goes on from the state that HALT retained
(`Woken`): if the external interrupt can be acknowledged, with its entry, which pushes the address of the instruction after
the HALT; if no source can be (EMI = 0, or the stack full, or no enabled source with a request), with that instruction and EIF
still set. -/
def Obligations.ExternalInterruptWakeUp : Prop :=
  ∀ (s : State) (p : Pads), SleepsWith s p → s.lastInt = true → p.int = false →
    ∃ u : State, Woken s p u ∧ ContinuesAs s u ∧ u.eif = true ∧
      (s.emi = true → s.eei = true → s.sp ≠ 4 →
        u.acknowledged = some .external ∧
        ∃ t, InterruptTaken u .external t ∧ step s = t.finish s.input u ∧ Pushed s s.pc t) ∧
      (s.emi = false ∨ s.sp = 4 ∨
          (s.eei = false ∧ (s.et0i = false ∨ u.t0f = false) ∧ (s.et1i = false ∨ u.t1f = false)) →
        u.acknowledged = none ∧ ∀ i, decode (s.progRead s.pc) = .ok i →
          step s = match exec i u with
            | .next t => t.finish s.input u
            | .fault f => .fault f
            | .refused r => .refused r)

/-- R223, R225, R229, R236, R244, R247 (how a wake-up goes on: R201, log 3; the input of timer 0 is INT and that of timer 1
PC5 or its latch: log 20; edges in HALT move no pulse width measurement: log 18; the time: log 22): in HALT, an active edge at
the input of a timer in event count mode that is at its last count reloads it, sets its request flag and ends HALT, whatever
the enable bits hold; the same step goes on from the state that HALT retained, with an entry or with the next instruction. An
edge before the last count is counted and wakes nothing, here at timer 0 with no other event. -/
def Obligations.EventOverflowWakeUp : Prop :=
  ∀ (s : State) (p : Pads), SleepsWith s p →
    (s.tmr0.ton = true → s.tmr0.mode = .eventCount → s.lastInt = s.tmr0.te → p.int = !s.tmr0.te →
      s.tmr0.cnt = 0xFFFF#16 →
        ∃ u : State, Woken s p u ∧ ContinuesAs s u ∧ u.t0f = true ∧ u.tmr0.cnt = s.tmr0.pre) ∧
    (s.tmr1.ton = true → s.tmr1.mode = .eventCount → s.lastTmr1 = s.tmr1.te → s.tmr1Level p = !s.tmr1.te →
      s.tmr1.cnt = 0xFF#8 →
        ∃ u : State, Woken s p u ∧ ContinuesAs s u ∧ u.t1f = true ∧ u.tmr1.cnt = s.tmr1.pre) ∧
    (s.tmr0.ton = true → s.tmr0.mode = .eventCount → s.tmr0.te = false → s.lastInt = false → p.int = true →
      s.tmr0.cnt ≠ 0xFFFF#16 → p.pa = s.lastPa → s.tmr1.ton = false → s.eif = false → s.t0f = false → s.t1f = false →
        ∃ t, step s = .next t ∧ t.halted = true ∧ t.pc = s.pc ∧ t.tmr0.cnt = s.tmr0.cnt + 1 ∧ t.t0f = false)

/-! ### Timer/event counters -/

/-- R225: n counts from c: below the overflow the sum; else the preload value reloaded at each overflow and counted on from,
with a period of 2^w minus preload, and an overflow to report. -/
def Obligations.CountsAndReloads : Prop :=
  ∀ (w n : Nat) (pre c : BitVec w),
    (c.toNat + n < 2 ^ w → (countUp pre n c).1.toNat = c.toNat + n ∧ (countUp pre n c).2 = false) ∧
    (2 ^ w ≤ c.toNat + n →
      (countUp pre n c).1.toNat = pre.toNat + (c.toNat + n - 2 ^ w) % (2 ^ w - pre.toNat) ∧ (countUp pre n c).2 = true)

/-- R222, R224, R228, R201 (the phase of counting around a change of TON: D15, log 16; loss by a read: log 13): the time of an
instruction of s.cyc cycles that began in `before` and left `s`, with no edge at the pads and no watchdog time-out. A timer with
TON = 1 in `before` and in `s`, in timer mode or counting a pulse width, makes s.cyc counts, less at most one if the instruction
read it; a timer that the instruction turned on or off, or in another mode, makes none. An overflow sets the request flag, and
nothing here clears it. -/
def Obligations.TimersCountCycles : Prop :=
  ∀ (s before : State) (inp : Input), s.tmr0.onInUnusedMode = false → s.tmr1.onInUnusedMode = false →
    inp.runPads = [] → s.lastInt = s.pads.int → s.lastTmr1 = s.tmr1Level s.pads →
    (s.opt.getLsbD 13 = true ∨
      s.wdt + (if s.opt.getLsbD 12 then s.cyc else inp.runOsc) < 256 * 2 ^ (s.wdts.toNat % 8)) →
      ∃ t, s.finish inp before = .next t ∧
        (∃ loss, loss ≤ 1 ∧ (s.tmr0.blocked = false → loss = 0) ∧
          if before.tmr0.ton = true ∧ s.tmr0.ton = true ∧
              (s.tmr0.mode = .timer ∨ (s.tmr0.mode = .pulseWidth ∧ s.tmr0.phase = .counting)) then
            t.tmr0.cnt = (countUp s.tmr0.pre (s.cyc - loss) s.tmr0.cnt).1 ∧
            t.t0f = (s.t0f || (countUp s.tmr0.pre (s.cyc - loss) s.tmr0.cnt).2)
          else t.tmr0.cnt = s.tmr0.cnt ∧ t.t0f = s.t0f) ∧
        ∃ loss, loss ≤ 1 ∧ (s.tmr1.blocked = false → loss = 0) ∧
          if before.tmr1.ton = true ∧ s.tmr1.ton = true ∧
              (s.tmr1.mode = .timer ∨ (s.tmr1.mode = .pulseWidth ∧ s.tmr1.phase = .counting)) then
            t.tmr1.cnt = (countUp s.tmr1.pre (s.cyc - loss) s.tmr1.cnt).1 ∧
            t.t1f = (s.t1f || (countUp s.tmr1.pre (s.cyc - loss) s.tmr1.cnt).2)
          else t.tmr1.cnt = s.tmr1.cnt ∧ t.t1f = s.t1f

/-- R186, R187, R201, R222 to R225, R236 (TMR1 is the PC5 pad, or PC5's own latch: log 20; the order of cycles and edges: log
19; all levels are seen: log 2). What the pads going to `p` does: INT falling sets EIF, whatever is enabled; an overflow by an
edge sets the timer's request flag; no request flag is cleared. In event count mode an edge of the active kind, rising with TE
= 0 and falling with TE = 1, is one count, which at the last count reloads the counter and overflows, and no other edge is. In
pulse width mode the start edge (rising with TE = 1) makes an armed timer count, the opposite edge turns a counting timer off
with its count kept, and neither overflows; a level without an edge, and an edge at a timer that does not run, do nothing. And
what the pads do in the time of an instruction or entry, in which they take the present levels and then those of inp.runPads
in turn: afterwards the pads and the edge detectors hold the last levels; without a watchdog time-out, EIF is set exactly if
it was or INT fell, each timer has counted its cycles and edges (`TimerPassed`; which timers run: log 16, a read of the
counter: log 13), and nothing else changes but the time and the watchdog's count. -/
def Obligations.PadEdges : Prop :=
  (∀ (s : State) (r0 r1 pulse : Bool) (p : Pads),
    (s.samplePads r0 r1 pulse p).eif = (s.eif || (s.lastInt && !p.int)) ∧
    (s.samplePads r0 r1 pulse p).tmr0 = (s.tmr0.inputEdge r0 pulse s.lastInt p.int).1 ∧
    (s.samplePads r0 r1 pulse p).t0f = (s.t0f || (s.tmr0.inputEdge r0 pulse s.lastInt p.int).2) ∧
    (s.samplePads r0 r1 pulse p).lastTmr1 = (if s.pcc.getLsbD 5 then p.pc.getLsbD 5 else s.pcLatch.getLsbD 5) ∧
    (s.samplePads r0 r1 pulse p).tmr1 =
      (s.tmr1.inputEdge r1 pulse s.lastTmr1 (if s.pcc.getLsbD 5 then p.pc.getLsbD 5 else s.pcLatch.getLsbD 5)).1 ∧
    (s.samplePads r0 r1 pulse p).t1f = (s.t1f ||
      (s.tmr1.inputEdge r1 pulse s.lastTmr1 (if s.pcc.getLsbD 5 then p.pc.getLsbD 5 else s.pcLatch.getLsbD 5)).2) ∧
    (s.samplePads r0 r1 pulse p).pads = p ∧ (s.samplePads r0 r1 pulse p).lastInt = p.int ∧
    (s.samplePads r0 r1 pulse p).lastPa = p.pa) ∧
  (∀ (w : Nat) (t : Timer w) (pulse now : Bool), t.mode = .eventCount → t.blocked = false →
    ((t.inputEdge true pulse (!now) now).1.cnt =
        if now = !t.te then (if t.cnt = BitVec.allOnes w then t.pre else t.cnt + 1) else t.cnt) ∧
      ((t.inputEdge true pulse (!now) now).2 = true ↔ now = (!t.te) ∧ t.cnt = BitVec.allOnes w)) ∧
  (∀ (w : Nat) (t : Timer w), t.mode = .pulseWidth → t.phase = .armed →
    t.inputEdge true true (!t.te) t.te = ({ t with phase := .counting }, false) ∧
    t.inputEdge true true t.te (!t.te) = (t, false)) ∧
  (∀ (w : Nat) (t : Timer w), t.mode = .pulseWidth → t.phase = .counting →
    t.inputEdge true true t.te (!t.te) = ({ t with ton := false, phase := .idle }, false)) ∧
  (∀ (w : Nat) (t : Timer w) (run pulse level : Bool), t.inputEdge run pulse level level = (t, false)) ∧
  (∀ (w : Nat) (t : Timer w) (pulse old now : Bool), t.inputEdge false pulse old now = (t, false)) ∧
  ∀ (s before : State) (inp : Input), s.tmr0.onInUnusedMode = false → s.tmr1.onInUnusedMode = false →
    ∃ t, s.finish inp before = .next t ∧
      t.pads = inp.runPads.getLastD s.pads ∧ t.lastInt = (inp.runPads.getLastD s.pads).int ∧
      t.lastPa = (inp.runPads.getLastD s.pads).pa ∧
      t.lastTmr1 =
        (if s.pcc.getLsbD 5 then (inp.runPads.getLastD s.pads).pc.getLsbD 5 else s.pcLatch.getLsbD 5) ∧
      (s.noTimeOut inp →
        t.eif = (s.eif || decide (0 < edgesTo false s.lastInt ((s.pads :: inp.runPads).map Pads.int))) ∧
        TimerPassed (before.tmr0.ton && s.tmr0.ton) s.lastInt ((s.pads :: inp.runPads).map Pads.int) s.cyc
          s.tmr0 t.tmr0 s.t0f t.t0f ∧
        TimerPassed (before.tmr1.ton && s.tmr1.ton) s.lastTmr1 ((s.pads :: inp.runPads).map s.tmr1Level) s.cyc
          s.tmr1 t.tmr1 s.t1f t.t1f ∧
        t = { s with
          tmr0 := t.tmr0, tmr1 := t.tmr1, eif := t.eif, t0f := t.t0f, t1f := t.t1f, pads := t.pads
          lastInt := t.lastInt, lastPa := t.lastPa, lastTmr1 := t.lastTmr1
          elapsed := s.elapsed + s.cyc, wdt := t.wdt })

/-- R41, R226, R227, R264: reading TMR0H and then TMR0L gives the two bytes of one count, whatever the counter does between;
writing TMR0L and then TMR0H puts both bytes in the preload register at once, and in the counter too where the timer is
off. -/
def Obligations.LowByteBuffer : Prop :=
  (∀ s t t' u : State, exec (.movAM 0x0C#8) s = .next t → t'.lowbuf0 = t.lowbuf0 →
    exec (.movAM 0x0D#8) t' = .next u → 256 * t.acc.toNat + u.acc.toNat = s.tmr0.cnt.toNat) ∧
  ∀ s t t' u : State, exec (.movMA 0x0D#8) s = .next t → t'.lowbuf0 = t.lowbuf0 →
    exec (.movMA 0x0C#8) t' = .next u →
      t.tmr0.pre = s.tmr0.pre ∧ t.tmr0.cnt = s.tmr0.cnt ∧ u.tmr0.pre.toNat = 256 * t'.acc.toNat + s.acc.toNat ∧
      u.tmr0.cnt = if t'.tmr0.ton = true then t'.tmr0.cnt else u.tmr0.pre

/-! ### The PROM programming port -/

/-- R273, R274 (what the text leaves open about the port, FFFH going on at 000H among it: log 37): a word clocked in at an
address of the program PROM is the word there afterwards and no other word changes; a verification cycle then clocks its four
nibbles out, or ones under LOCK = 1; and the address goes on by one. -/
def Obligations.ProgramAndVerify : Prop :=
  ∀ (p q r : PromPort) (a : Addr) (w : Word) (out1 out2 : List (Option (BitVec 4))), Memory.romWf p.rom = true →
    (p.deselect.clocks .program (addressNibbles a false false ++ dataNibbles w)) = (q, out1) →
    (q.deselect.clocks .verify (addressNibbles a false false ++ [0, 0, 0, 0])) = (r, out2) →
      Memory.romWord q.rom a = w ∧ (∀ b, b ≠ a → Memory.romWord q.rom b = Memory.romWord p.rom b) ∧
      q.option = p.option ∧ r.rom = q.rom ∧ r.addr = a + 1 ∧
      out2.drop 4 = (dataNibbles (if p.lock then 0x7FFF#15 else w)).map some
end

