-- ==== Sys2Proof/Laws/Memory.lean ====
section
/-! SUPPORT. RAM and program memory as lists in canonical form: read after write, and that every write keeps the form. -/

namespace Sys2Proof.Machine

theorem Memory.find_entry_append {α : Type} (a b : Nat) (v : Option α) (l : List (Nat × α)) :
    Memory.find (Memory.entry a v ++ l) b = if b = a ∧ v.isSome then v else Memory.find l b := by
  cases v <;> simp [Memory.entry, Memory.find]

theorem Memory.find_of_below {α : Type} {lo a : Nat} {l : List (Nat × α)}
    (h : Memory.risingFrom lo l = true) (ha : a < lo) : Memory.find l a = none := by
  induction l generalizing lo with
  | nil => rfl
  | cons p rest ih =>
    obtain ⟨b, y⟩ := p
    simp only [Memory.risingFrom, Bool.and_eq_true, decide_eq_true_eq] at h
    have hne : a ≠ b := by omega
    simp only [Memory.find, hne, if_false]
    exact ih h.2 (by omega)

/-- Read after write at the same address. -/
theorem Memory.find_set_same {α : Type} {lo : Nat} {l : List (Nat × α)} (a : Nat) (v : Option α)
    (h : Memory.risingFrom lo l = true) : Memory.find (Memory.set l a v) a = v := by
  induction l generalizing lo with
  | nil => cases v <;> simp [Memory.set, Memory.entry, Memory.find]
  | cons p rest ih =>
    obtain ⟨b, y⟩ := p
    simp only [Memory.risingFrom, Bool.and_eq_true, decide_eq_true_eq] at h
    simp only [Memory.set]
    split
    · next hlt =>
      rw [Memory.find_entry_append]
      cases v with
      | some x => simp
      | none =>
        have hne : a ≠ b := by omega
        simp only [Option.isSome_none, Bool.false_eq_true, and_false, if_false, Memory.find, hne]
        exact Memory.find_of_below h.2 (by omega)
    · split
      · next heq =>
        subst heq
        rw [Memory.find_entry_append]
        cases v with
        | some x => simp
        | none => simpa using Memory.find_of_below h.2 (by omega)
      · next hlt hne =>
        simp only [Memory.find, hne, if_false]
        exact ih h.2

/-- A write leaves every other address alone. -/
theorem Memory.find_set_other {α : Type} (l : List (Nat × α)) {a b : Nat} (v : Option α) (hab : b ≠ a) :
    Memory.find (Memory.set l a v) b = Memory.find l b := by
  induction l with
  | nil => cases v <;> simp [Memory.set, Memory.entry, Memory.find, hab]
  | cons p rest ih =>
    obtain ⟨c, y⟩ := p
    simp only [Memory.set]
    split
    · rw [Memory.find_entry_append]; simp [hab]
    · split
      · next heq =>
        subst heq
        rw [Memory.find_entry_append]; simp [hab, Memory.find]
      · simp [Memory.find, ih]

theorem Memory.risingFrom_mono {α : Type} {lo lo' : Nat} {l : List (Nat × α)} (hle : lo' ≤ lo)
    (h : Memory.risingFrom lo l = true) : Memory.risingFrom lo' l = true := by
  cases l with
  | nil => rfl
  | cons p rest =>
    simp only [Memory.risingFrom, Bool.and_eq_true, decide_eq_true_eq] at h ⊢
    exact ⟨by omega, h.2⟩

/-- A write keeps the addresses strictly rising. -/
theorem Memory.risingFrom_set {α : Type} {lo : Nat} {l : List (Nat × α)} {a : Nat} (v : Option α)
    (h : Memory.risingFrom lo l = true) (ha : lo ≤ a) : Memory.risingFrom lo (Memory.set l a v) = true := by
  induction l generalizing lo with
  | nil => cases v <;> simp [Memory.set, Memory.entry, Memory.risingFrom, ha]
  | cons p rest ih =>
    obtain ⟨b, y⟩ := p
    have h' := h
    simp only [Memory.risingFrom, Bool.and_eq_true, decide_eq_true_eq] at h
    simp only [Memory.set]
    split
    · next hlt =>
      cases v with
      | none => simpa [Memory.entry] using h'
      | some x =>
        simp only [Memory.entry, List.cons_append, List.nil_append, Memory.risingFrom, Bool.and_eq_true,
          decide_eq_true_eq]
        exact ⟨ha, by omega, h.2⟩
    · split
      · next heq =>
        subst heq
        cases v with
        | none =>
          simp only [Memory.entry, List.nil_append]
          exact Memory.risingFrom_mono (by omega) h.2
        | some x => simpa [Memory.entry, Memory.risingFrom] using h
      · next hlt hne =>
        simp only [Memory.risingFrom, Bool.and_eq_true, decide_eq_true_eq]
        exact ⟨h.1, ih h.2 (by omega)⟩

theorem Memory.all_set {α : Type} (P : Nat × α → Bool) {l : List (Nat × α)} {a : Nat} {v : Option α}
    (h : l.all P = true) (hv : ∀ x, v = some x → P (a, x) = true) : (Memory.set l a v).all P = true := by
  have entry : (Memory.entry a v).all P = true := by
    cases v with
    | none => rfl
    | some x => simpa [Memory.entry] using hv x rfl
  induction l with
  | nil => simpa [Memory.set] using entry
  | cons p rest ih =>
    obtain ⟨b, y⟩ := p
    have h' := h
    simp only [List.all_cons, Bool.and_eq_true] at h'
    simp only [Memory.set]
    split
    · simp only [List.all_append, Bool.and_eq_true]; exact ⟨entry, h⟩
    · split
      · simp only [List.all_append, Bool.and_eq_true]; exact ⟨entry, h'.2⟩
      · simp only [List.all_cons, Bool.and_eq_true]; exact ⟨h'.1, ih h'.2⟩

/-- A RAM write keeps the canonical form. -/
theorem Memory.wf_set {ram : List Host.Cell} {a : Nat} (v : Byte) (h : Memory.wf ram = true) (lo : 0x60 ≤ a)
    (hi : a ≤ 0xFF) : Memory.wf (Memory.set ram a (some v)) = true := by
  simp only [Memory.wf, Bool.and_eq_true] at h ⊢
  exact ⟨Memory.risingFrom_set _ h.1 lo, Memory.all_set _ h.2 (by simp [hi])⟩

/-- A program memory write keeps the canonical form. -/
theorem Memory.romWf_romSet {rom : List (Nat × Word)} (a : Addr) (w : Word) (h : Memory.romWf rom = true) :
    Memory.romWf (Memory.romSet rom a w) = true := by
  simp only [Memory.romWf, Bool.and_eq_true] at h ⊢
  refine ⟨Memory.risingFrom_set _ h.1 (Nat.zero_le _), Memory.all_set _ h.2 ?_⟩
  intro x hx
  have : a.toNat < 4096 := a.isLt
  split at hx
  · cases hx
  · next hne =>
    cases hx
    simp only [Bool.and_eq_true, decide_eq_true_eq]
    exact ⟨by omega, hne⟩

/-- A program word reads back after it is set. -/
theorem Memory.romWord_romSet_same {rom : List (Nat × Word)} (a : Addr) (w : Word) (h : Memory.romWf rom = true) :
    Memory.romWord (Memory.romSet rom a w) a = w := by
  simp only [Memory.romWf, Bool.and_eq_true] at h
  rw [Memory.romWord, Memory.romSet, Memory.find_set_same _ _ h.1]
  split <;> simp_all

/-- Setting a program word leaves the others alone. -/
theorem Memory.romWord_romSet_other {rom : List (Nat × Word)} {a b : Addr} (w : Word) (hab : b ≠ a) :
    Memory.romWord (Memory.romSet rom a w) b = Memory.romWord rom b := by
  rw [Memory.romWord, Memory.romSet, Memory.find_set_other _ _ (fun h => hab (BitVec.eq_of_toNat_eq h)), Memory.romWord]

end Sys2Proof.Machine
end

