-- ==== Sys2Proof/Laws/State.lean ====
section
/-! SUPPORT. One lemma per field of the state for each named update, so that no proof unfolds a record update. -/

namespace Sys2Proof.Machine

/-! ### `State.fetched` -/

@[simp] theorem State.fetched_acc (s : State) : (s.fetched).acc = s.acc := rfl
@[simp] theorem State.fetched_pc (s : State) : (s.fetched).pc = s.pc + 1 := rfl
@[simp] theorem State.fetched_stk0 (s : State) : (s.fetched).stk0 = s.stk0 := rfl
@[simp] theorem State.fetched_stk1 (s : State) : (s.fetched).stk1 = s.stk1 := rfl
@[simp] theorem State.fetched_stk2 (s : State) : (s.fetched).stk2 = s.stk2 := rfl
@[simp] theorem State.fetched_stk3 (s : State) : (s.fetched).stk3 = s.stk3 := rfl
@[simp] theorem State.fetched_sp (s : State) : (s.fetched).sp = s.sp := rfl
@[simp] theorem State.fetched_mp0 (s : State) : (s.fetched).mp0 = s.mp0 := rfl
@[simp] theorem State.fetched_mp1 (s : State) : (s.fetched).mp1 = s.mp1 := rfl
@[simp] theorem State.fetched_tblp (s : State) : (s.fetched).tblp = s.tblp := rfl
@[simp] theorem State.fetched_tblh (s : State) : (s.fetched).tblh = s.tblh := rfl
@[simp] theorem State.fetched_wdts (s : State) : (s.fetched).wdts = s.wdts := rfl
@[simp] theorem State.fetched_flagC (s : State) : (s.fetched).flagC = s.flagC := rfl
@[simp] theorem State.fetched_flagAC (s : State) : (s.fetched).flagAC = s.flagAC := rfl
@[simp] theorem State.fetched_flagZ (s : State) : (s.fetched).flagZ = s.flagZ := rfl
@[simp] theorem State.fetched_flagOV (s : State) : (s.fetched).flagOV = s.flagOV := rfl
@[simp] theorem State.fetched_flagPD (s : State) : (s.fetched).flagPD = s.flagPD := rfl
@[simp] theorem State.fetched_flagTO (s : State) : (s.fetched).flagTO = s.flagTO := rfl
@[simp] theorem State.fetched_emi (s : State) : (s.fetched).emi = s.emi := rfl
@[simp] theorem State.fetched_eei (s : State) : (s.fetched).eei = s.eei := rfl
@[simp] theorem State.fetched_et0i (s : State) : (s.fetched).et0i = s.et0i := rfl
@[simp] theorem State.fetched_et1i (s : State) : (s.fetched).et1i = s.et1i := rfl
@[simp] theorem State.fetched_eif (s : State) : (s.fetched).eif = s.eif := rfl
@[simp] theorem State.fetched_t0f (s : State) : (s.fetched).t0f = s.t0f := rfl
@[simp] theorem State.fetched_t1f (s : State) : (s.fetched).t1f = s.t1f := rfl
@[simp] theorem State.fetched_tmr0 (s : State) : (s.fetched).tmr0 = { s.tmr0 with blocked := false } := rfl
@[simp] theorem State.fetched_lowbuf0 (s : State) : (s.fetched).lowbuf0 = s.lowbuf0 := rfl
@[simp] theorem State.fetched_tmr1 (s : State) : (s.fetched).tmr1 = { s.tmr1 with blocked := false } := rfl
@[simp] theorem State.fetched_paLatch (s : State) : (s.fetched).paLatch = s.paLatch := rfl
@[simp] theorem State.fetched_pbLatch (s : State) : (s.fetched).pbLatch = s.pbLatch := rfl
@[simp] theorem State.fetched_pcLatch (s : State) : (s.fetched).pcLatch = s.pcLatch := rfl
@[simp] theorem State.fetched_pdLatch (s : State) : (s.fetched).pdLatch = s.pdLatch := rfl
@[simp] theorem State.fetched_pac (s : State) : (s.fetched).pac = s.pac := rfl
@[simp] theorem State.fetched_pbc (s : State) : (s.fetched).pbc = s.pbc := rfl
@[simp] theorem State.fetched_pcc (s : State) : (s.fetched).pcc = s.pcc := rfl
@[simp] theorem State.fetched_pdc (s : State) : (s.fetched).pdc = s.pdc := rfl
@[simp] theorem State.fetched_ram (s : State) : (s.fetched).ram = s.ram := rfl
@[simp] theorem State.fetched_rom (s : State) : (s.fetched).rom = s.rom := rfl
@[simp] theorem State.fetched_opt (s : State) : (s.fetched).opt = s.opt := rfl
@[simp] theorem State.fetched_wdt (s : State) : (s.fetched).wdt = s.wdt := rfl
@[simp] theorem State.fetched_wf1 (s : State) : (s.fetched).wf1 = s.wf1 := rfl
@[simp] theorem State.fetched_wf2 (s : State) : (s.fetched).wf2 = s.wf2 := rfl
@[simp] theorem State.fetched_halted (s : State) : (s.fetched).halted = s.halted := rfl
@[simp] theorem State.fetched_pads (s : State) : (s.fetched).pads = s.pads := rfl
@[simp] theorem State.fetched_lastInt (s : State) : (s.fetched).lastInt = s.lastInt := rfl
@[simp] theorem State.fetched_lastPa (s : State) : (s.fetched).lastPa = s.lastPa := rfl
@[simp] theorem State.fetched_lastTmr1 (s : State) : (s.fetched).lastTmr1 = s.lastTmr1 := rfl
@[simp] theorem State.fetched_cyc (s : State) : (s.fetched).cyc = 1 := rfl
@[simp] theorem State.fetched_elapsed (s : State) : (s.fetched).elapsed = s.elapsed := rfl
@[simp] theorem State.fetched_draws (s : State) : (s.fetched).draws = s.draws := rfl
@[simp] theorem State.fetched_ramDraw (s : State) : (s.fetched).ramDraw = s.ramDraw := rfl
@[simp] theorem State.fetched_inputs (s : State) : (s.fetched).inputs = s.inputs := rfl


/-! ### `State.afterRead` -/

@[simp] theorem State.afterRead_acc (s : State) (m : Byte) : (s.afterRead m).acc = s.acc := rfl
@[simp] theorem State.afterRead_pc (s : State) (m : Byte) : (s.afterRead m).pc = s.pc := rfl
@[simp] theorem State.afterRead_stk0 (s : State) (m : Byte) : (s.afterRead m).stk0 = s.stk0 := rfl
@[simp] theorem State.afterRead_stk1 (s : State) (m : Byte) : (s.afterRead m).stk1 = s.stk1 := rfl
@[simp] theorem State.afterRead_stk2 (s : State) (m : Byte) : (s.afterRead m).stk2 = s.stk2 := rfl
@[simp] theorem State.afterRead_stk3 (s : State) (m : Byte) : (s.afterRead m).stk3 = s.stk3 := rfl
@[simp] theorem State.afterRead_sp (s : State) (m : Byte) : (s.afterRead m).sp = s.sp := rfl
@[simp] theorem State.afterRead_mp0 (s : State) (m : Byte) : (s.afterRead m).mp0 = s.mp0 := rfl
@[simp] theorem State.afterRead_mp1 (s : State) (m : Byte) : (s.afterRead m).mp1 = s.mp1 := rfl
@[simp] theorem State.afterRead_tblp (s : State) (m : Byte) : (s.afterRead m).tblp = s.tblp := rfl
@[simp] theorem State.afterRead_tblh (s : State) (m : Byte) : (s.afterRead m).tblh = s.tblh := rfl
@[simp] theorem State.afterRead_wdts (s : State) (m : Byte) : (s.afterRead m).wdts = s.wdts := rfl
@[simp] theorem State.afterRead_flagC (s : State) (m : Byte) : (s.afterRead m).flagC = s.flagC := rfl
@[simp] theorem State.afterRead_flagAC (s : State) (m : Byte) : (s.afterRead m).flagAC = s.flagAC := rfl
@[simp] theorem State.afterRead_flagZ (s : State) (m : Byte) : (s.afterRead m).flagZ = s.flagZ := rfl
@[simp] theorem State.afterRead_flagOV (s : State) (m : Byte) : (s.afterRead m).flagOV = s.flagOV := rfl
@[simp] theorem State.afterRead_flagPD (s : State) (m : Byte) : (s.afterRead m).flagPD = s.flagPD := rfl
@[simp] theorem State.afterRead_flagTO (s : State) (m : Byte) : (s.afterRead m).flagTO = s.flagTO := rfl
@[simp] theorem State.afterRead_emi (s : State) (m : Byte) : (s.afterRead m).emi = s.emi := rfl
@[simp] theorem State.afterRead_eei (s : State) (m : Byte) : (s.afterRead m).eei = s.eei := rfl
@[simp] theorem State.afterRead_et0i (s : State) (m : Byte) : (s.afterRead m).et0i = s.et0i := rfl
@[simp] theorem State.afterRead_et1i (s : State) (m : Byte) : (s.afterRead m).et1i = s.et1i := rfl
@[simp] theorem State.afterRead_eif (s : State) (m : Byte) : (s.afterRead m).eif = s.eif := rfl
@[simp] theorem State.afterRead_t0f (s : State) (m : Byte) : (s.afterRead m).t0f = s.t0f := rfl
@[simp] theorem State.afterRead_t1f (s : State) (m : Byte) : (s.afterRead m).t1f = s.t1f := rfl
@[simp] theorem State.afterRead_tmr0 (s : State) (m : Byte) : (s.afterRead m).tmr0 = { s.tmr0 with blocked := s.tmr0.blocked || decide (s.resolve m = some 0x0C#8) } := rfl
@[simp] theorem State.afterRead_lowbuf0 (s : State) (m : Byte) : (s.afterRead m).lowbuf0 = if s.resolve m = some 0x0C#8 then s.tmr0.cnt.extractLsb' 0 8 else s.lowbuf0 := rfl
@[simp] theorem State.afterRead_tmr1 (s : State) (m : Byte) : (s.afterRead m).tmr1 = { s.tmr1 with blocked := s.tmr1.blocked || decide (s.resolve m = some 0x10#8) } := rfl
@[simp] theorem State.afterRead_paLatch (s : State) (m : Byte) : (s.afterRead m).paLatch = s.paLatch := rfl
@[simp] theorem State.afterRead_pbLatch (s : State) (m : Byte) : (s.afterRead m).pbLatch = s.pbLatch := rfl
@[simp] theorem State.afterRead_pcLatch (s : State) (m : Byte) : (s.afterRead m).pcLatch = s.pcLatch := rfl
@[simp] theorem State.afterRead_pdLatch (s : State) (m : Byte) : (s.afterRead m).pdLatch = s.pdLatch := rfl
@[simp] theorem State.afterRead_pac (s : State) (m : Byte) : (s.afterRead m).pac = s.pac := rfl
@[simp] theorem State.afterRead_pbc (s : State) (m : Byte) : (s.afterRead m).pbc = s.pbc := rfl
@[simp] theorem State.afterRead_pcc (s : State) (m : Byte) : (s.afterRead m).pcc = s.pcc := rfl
@[simp] theorem State.afterRead_pdc (s : State) (m : Byte) : (s.afterRead m).pdc = s.pdc := rfl
@[simp] theorem State.afterRead_ram (s : State) (m : Byte) : (s.afterRead m).ram = s.ram := rfl
@[simp] theorem State.afterRead_rom (s : State) (m : Byte) : (s.afterRead m).rom = s.rom := rfl
@[simp] theorem State.afterRead_opt (s : State) (m : Byte) : (s.afterRead m).opt = s.opt := rfl
@[simp] theorem State.afterRead_wdt (s : State) (m : Byte) : (s.afterRead m).wdt = s.wdt := rfl
@[simp] theorem State.afterRead_wf1 (s : State) (m : Byte) : (s.afterRead m).wf1 = s.wf1 := rfl
@[simp] theorem State.afterRead_wf2 (s : State) (m : Byte) : (s.afterRead m).wf2 = s.wf2 := rfl
@[simp] theorem State.afterRead_halted (s : State) (m : Byte) : (s.afterRead m).halted = s.halted := rfl
@[simp] theorem State.afterRead_pads (s : State) (m : Byte) : (s.afterRead m).pads = s.pads := rfl
@[simp] theorem State.afterRead_lastInt (s : State) (m : Byte) : (s.afterRead m).lastInt = s.lastInt := rfl
@[simp] theorem State.afterRead_lastPa (s : State) (m : Byte) : (s.afterRead m).lastPa = s.lastPa := rfl
@[simp] theorem State.afterRead_lastTmr1 (s : State) (m : Byte) : (s.afterRead m).lastTmr1 = s.lastTmr1 := rfl
@[simp] theorem State.afterRead_cyc (s : State) (m : Byte) : (s.afterRead m).cyc = s.cyc := rfl
@[simp] theorem State.afterRead_elapsed (s : State) (m : Byte) : (s.afterRead m).elapsed = s.elapsed := rfl
@[simp] theorem State.afterRead_draws (s : State) (m : Byte) : (s.afterRead m).draws = s.draws := rfl
@[simp] theorem State.afterRead_ramDraw (s : State) (m : Byte) : (s.afterRead m).ramDraw = s.ramDraw := rfl
@[simp] theorem State.afterRead_inputs (s : State) (m : Byte) : (s.afterRead m).inputs = s.inputs := rfl


/-! ### `State.setFlags` -/

@[simp] theorem State.setFlags_acc (s : State) (f : FlagUpdate) : (s.setFlags f).acc = s.acc := rfl
@[simp] theorem State.setFlags_pc (s : State) (f : FlagUpdate) : (s.setFlags f).pc = s.pc := rfl
@[simp] theorem State.setFlags_stk0 (s : State) (f : FlagUpdate) : (s.setFlags f).stk0 = s.stk0 := rfl
@[simp] theorem State.setFlags_stk1 (s : State) (f : FlagUpdate) : (s.setFlags f).stk1 = s.stk1 := rfl
@[simp] theorem State.setFlags_stk2 (s : State) (f : FlagUpdate) : (s.setFlags f).stk2 = s.stk2 := rfl
@[simp] theorem State.setFlags_stk3 (s : State) (f : FlagUpdate) : (s.setFlags f).stk3 = s.stk3 := rfl
@[simp] theorem State.setFlags_sp (s : State) (f : FlagUpdate) : (s.setFlags f).sp = s.sp := rfl
@[simp] theorem State.setFlags_mp0 (s : State) (f : FlagUpdate) : (s.setFlags f).mp0 = s.mp0 := rfl
@[simp] theorem State.setFlags_mp1 (s : State) (f : FlagUpdate) : (s.setFlags f).mp1 = s.mp1 := rfl
@[simp] theorem State.setFlags_tblp (s : State) (f : FlagUpdate) : (s.setFlags f).tblp = s.tblp := rfl
@[simp] theorem State.setFlags_tblh (s : State) (f : FlagUpdate) : (s.setFlags f).tblh = s.tblh := rfl
@[simp] theorem State.setFlags_wdts (s : State) (f : FlagUpdate) : (s.setFlags f).wdts = s.wdts := rfl
@[simp] theorem State.setFlags_flagC (s : State) (f : FlagUpdate) : (s.setFlags f).flagC = f.c.getD s.flagC := rfl
@[simp] theorem State.setFlags_flagAC (s : State) (f : FlagUpdate) : (s.setFlags f).flagAC = f.ac.getD s.flagAC := rfl
@[simp] theorem State.setFlags_flagZ (s : State) (f : FlagUpdate) : (s.setFlags f).flagZ = f.z.getD s.flagZ := rfl
@[simp] theorem State.setFlags_flagOV (s : State) (f : FlagUpdate) : (s.setFlags f).flagOV = f.ov.getD s.flagOV := rfl
@[simp] theorem State.setFlags_flagPD (s : State) (f : FlagUpdate) : (s.setFlags f).flagPD = s.flagPD := rfl
@[simp] theorem State.setFlags_flagTO (s : State) (f : FlagUpdate) : (s.setFlags f).flagTO = s.flagTO := rfl
@[simp] theorem State.setFlags_emi (s : State) (f : FlagUpdate) : (s.setFlags f).emi = s.emi := rfl
@[simp] theorem State.setFlags_eei (s : State) (f : FlagUpdate) : (s.setFlags f).eei = s.eei := rfl
@[simp] theorem State.setFlags_et0i (s : State) (f : FlagUpdate) : (s.setFlags f).et0i = s.et0i := rfl
@[simp] theorem State.setFlags_et1i (s : State) (f : FlagUpdate) : (s.setFlags f).et1i = s.et1i := rfl
@[simp] theorem State.setFlags_eif (s : State) (f : FlagUpdate) : (s.setFlags f).eif = s.eif := rfl
@[simp] theorem State.setFlags_t0f (s : State) (f : FlagUpdate) : (s.setFlags f).t0f = s.t0f := rfl
@[simp] theorem State.setFlags_t1f (s : State) (f : FlagUpdate) : (s.setFlags f).t1f = s.t1f := rfl
@[simp] theorem State.setFlags_tmr0 (s : State) (f : FlagUpdate) : (s.setFlags f).tmr0 = s.tmr0 := rfl
@[simp] theorem State.setFlags_lowbuf0 (s : State) (f : FlagUpdate) : (s.setFlags f).lowbuf0 = s.lowbuf0 := rfl
@[simp] theorem State.setFlags_tmr1 (s : State) (f : FlagUpdate) : (s.setFlags f).tmr1 = s.tmr1 := rfl
@[simp] theorem State.setFlags_paLatch (s : State) (f : FlagUpdate) : (s.setFlags f).paLatch = s.paLatch := rfl
@[simp] theorem State.setFlags_pbLatch (s : State) (f : FlagUpdate) : (s.setFlags f).pbLatch = s.pbLatch := rfl
@[simp] theorem State.setFlags_pcLatch (s : State) (f : FlagUpdate) : (s.setFlags f).pcLatch = s.pcLatch := rfl
@[simp] theorem State.setFlags_pdLatch (s : State) (f : FlagUpdate) : (s.setFlags f).pdLatch = s.pdLatch := rfl
@[simp] theorem State.setFlags_pac (s : State) (f : FlagUpdate) : (s.setFlags f).pac = s.pac := rfl
@[simp] theorem State.setFlags_pbc (s : State) (f : FlagUpdate) : (s.setFlags f).pbc = s.pbc := rfl
@[simp] theorem State.setFlags_pcc (s : State) (f : FlagUpdate) : (s.setFlags f).pcc = s.pcc := rfl
@[simp] theorem State.setFlags_pdc (s : State) (f : FlagUpdate) : (s.setFlags f).pdc = s.pdc := rfl
@[simp] theorem State.setFlags_ram (s : State) (f : FlagUpdate) : (s.setFlags f).ram = s.ram := rfl
@[simp] theorem State.setFlags_rom (s : State) (f : FlagUpdate) : (s.setFlags f).rom = s.rom := rfl
@[simp] theorem State.setFlags_opt (s : State) (f : FlagUpdate) : (s.setFlags f).opt = s.opt := rfl
@[simp] theorem State.setFlags_wdt (s : State) (f : FlagUpdate) : (s.setFlags f).wdt = s.wdt := rfl
@[simp] theorem State.setFlags_wf1 (s : State) (f : FlagUpdate) : (s.setFlags f).wf1 = s.wf1 := rfl
@[simp] theorem State.setFlags_wf2 (s : State) (f : FlagUpdate) : (s.setFlags f).wf2 = s.wf2 := rfl
@[simp] theorem State.setFlags_halted (s : State) (f : FlagUpdate) : (s.setFlags f).halted = s.halted := rfl
@[simp] theorem State.setFlags_pads (s : State) (f : FlagUpdate) : (s.setFlags f).pads = s.pads := rfl
@[simp] theorem State.setFlags_lastInt (s : State) (f : FlagUpdate) : (s.setFlags f).lastInt = s.lastInt := rfl
@[simp] theorem State.setFlags_lastPa (s : State) (f : FlagUpdate) : (s.setFlags f).lastPa = s.lastPa := rfl
@[simp] theorem State.setFlags_lastTmr1 (s : State) (f : FlagUpdate) : (s.setFlags f).lastTmr1 = s.lastTmr1 := rfl
@[simp] theorem State.setFlags_cyc (s : State) (f : FlagUpdate) : (s.setFlags f).cyc = s.cyc := rfl
@[simp] theorem State.setFlags_elapsed (s : State) (f : FlagUpdate) : (s.setFlags f).elapsed = s.elapsed := rfl
@[simp] theorem State.setFlags_draws (s : State) (f : FlagUpdate) : (s.setFlags f).draws = s.draws := rfl
@[simp] theorem State.setFlags_ramDraw (s : State) (f : FlagUpdate) : (s.setFlags f).ramDraw = s.ramDraw := rfl
@[simp] theorem State.setFlags_inputs (s : State) (f : FlagUpdate) : (s.setFlags f).inputs = s.inputs := rfl


/-! ### `State.setFlagsOfStatus` -/

@[simp] theorem State.setFlagsOfStatus_acc (s : State) (f : FlagUpdate) : (s.setFlagsOfStatus f).acc = s.acc := rfl
@[simp] theorem State.setFlagsOfStatus_pc (s : State) (f : FlagUpdate) : (s.setFlagsOfStatus f).pc = s.pc := rfl
@[simp] theorem State.setFlagsOfStatus_stk0 (s : State) (f : FlagUpdate) : (s.setFlagsOfStatus f).stk0 = s.stk0 := rfl
@[simp] theorem State.setFlagsOfStatus_stk1 (s : State) (f : FlagUpdate) : (s.setFlagsOfStatus f).stk1 = s.stk1 := rfl
@[simp] theorem State.setFlagsOfStatus_stk2 (s : State) (f : FlagUpdate) : (s.setFlagsOfStatus f).stk2 = s.stk2 := rfl
@[simp] theorem State.setFlagsOfStatus_stk3 (s : State) (f : FlagUpdate) : (s.setFlagsOfStatus f).stk3 = s.stk3 := rfl
@[simp] theorem State.setFlagsOfStatus_sp (s : State) (f : FlagUpdate) : (s.setFlagsOfStatus f).sp = s.sp := rfl
@[simp] theorem State.setFlagsOfStatus_mp0 (s : State) (f : FlagUpdate) : (s.setFlagsOfStatus f).mp0 = s.mp0 := rfl
@[simp] theorem State.setFlagsOfStatus_mp1 (s : State) (f : FlagUpdate) : (s.setFlagsOfStatus f).mp1 = s.mp1 := rfl
@[simp] theorem State.setFlagsOfStatus_tblp (s : State) (f : FlagUpdate) : (s.setFlagsOfStatus f).tblp = s.tblp := rfl
@[simp] theorem State.setFlagsOfStatus_tblh (s : State) (f : FlagUpdate) : (s.setFlagsOfStatus f).tblh = s.tblh := rfl
@[simp] theorem State.setFlagsOfStatus_wdts (s : State) (f : FlagUpdate) : (s.setFlagsOfStatus f).wdts = s.wdts := rfl
@[simp] theorem State.setFlagsOfStatus_flagC (s : State) (f : FlagUpdate) : (s.setFlagsOfStatus f).flagC = flagOrData s.draws 0 s.flagC f.c := rfl
@[simp] theorem State.setFlagsOfStatus_flagAC (s : State) (f : FlagUpdate) : (s.setFlagsOfStatus f).flagAC = flagOrData s.draws 1 s.flagAC f.ac := rfl
@[simp] theorem State.setFlagsOfStatus_flagZ (s : State) (f : FlagUpdate) : (s.setFlagsOfStatus f).flagZ = flagOrData s.draws 2 s.flagZ f.z := rfl
@[simp] theorem State.setFlagsOfStatus_flagOV (s : State) (f : FlagUpdate) : (s.setFlagsOfStatus f).flagOV = flagOrData s.draws 3 s.flagOV f.ov := rfl
@[simp] theorem State.setFlagsOfStatus_flagPD (s : State) (f : FlagUpdate) : (s.setFlagsOfStatus f).flagPD = s.flagPD := rfl
@[simp] theorem State.setFlagsOfStatus_flagTO (s : State) (f : FlagUpdate) : (s.setFlagsOfStatus f).flagTO = s.flagTO := rfl
@[simp] theorem State.setFlagsOfStatus_emi (s : State) (f : FlagUpdate) : (s.setFlagsOfStatus f).emi = s.emi := rfl
@[simp] theorem State.setFlagsOfStatus_eei (s : State) (f : FlagUpdate) : (s.setFlagsOfStatus f).eei = s.eei := rfl
@[simp] theorem State.setFlagsOfStatus_et0i (s : State) (f : FlagUpdate) : (s.setFlagsOfStatus f).et0i = s.et0i := rfl
@[simp] theorem State.setFlagsOfStatus_et1i (s : State) (f : FlagUpdate) : (s.setFlagsOfStatus f).et1i = s.et1i := rfl
@[simp] theorem State.setFlagsOfStatus_eif (s : State) (f : FlagUpdate) : (s.setFlagsOfStatus f).eif = s.eif := rfl
@[simp] theorem State.setFlagsOfStatus_t0f (s : State) (f : FlagUpdate) : (s.setFlagsOfStatus f).t0f = s.t0f := rfl
@[simp] theorem State.setFlagsOfStatus_t1f (s : State) (f : FlagUpdate) : (s.setFlagsOfStatus f).t1f = s.t1f := rfl
@[simp] theorem State.setFlagsOfStatus_tmr0 (s : State) (f : FlagUpdate) : (s.setFlagsOfStatus f).tmr0 = s.tmr0 := rfl
@[simp] theorem State.setFlagsOfStatus_lowbuf0 (s : State) (f : FlagUpdate) : (s.setFlagsOfStatus f).lowbuf0 = s.lowbuf0 := rfl
@[simp] theorem State.setFlagsOfStatus_tmr1 (s : State) (f : FlagUpdate) : (s.setFlagsOfStatus f).tmr1 = s.tmr1 := rfl
@[simp] theorem State.setFlagsOfStatus_paLatch (s : State) (f : FlagUpdate) : (s.setFlagsOfStatus f).paLatch = s.paLatch := rfl
@[simp] theorem State.setFlagsOfStatus_pbLatch (s : State) (f : FlagUpdate) : (s.setFlagsOfStatus f).pbLatch = s.pbLatch := rfl
@[simp] theorem State.setFlagsOfStatus_pcLatch (s : State) (f : FlagUpdate) : (s.setFlagsOfStatus f).pcLatch = s.pcLatch := rfl
@[simp] theorem State.setFlagsOfStatus_pdLatch (s : State) (f : FlagUpdate) : (s.setFlagsOfStatus f).pdLatch = s.pdLatch := rfl
@[simp] theorem State.setFlagsOfStatus_pac (s : State) (f : FlagUpdate) : (s.setFlagsOfStatus f).pac = s.pac := rfl
@[simp] theorem State.setFlagsOfStatus_pbc (s : State) (f : FlagUpdate) : (s.setFlagsOfStatus f).pbc = s.pbc := rfl
@[simp] theorem State.setFlagsOfStatus_pcc (s : State) (f : FlagUpdate) : (s.setFlagsOfStatus f).pcc = s.pcc := rfl
@[simp] theorem State.setFlagsOfStatus_pdc (s : State) (f : FlagUpdate) : (s.setFlagsOfStatus f).pdc = s.pdc := rfl
@[simp] theorem State.setFlagsOfStatus_ram (s : State) (f : FlagUpdate) : (s.setFlagsOfStatus f).ram = s.ram := rfl
@[simp] theorem State.setFlagsOfStatus_rom (s : State) (f : FlagUpdate) : (s.setFlagsOfStatus f).rom = s.rom := rfl
@[simp] theorem State.setFlagsOfStatus_opt (s : State) (f : FlagUpdate) : (s.setFlagsOfStatus f).opt = s.opt := rfl
@[simp] theorem State.setFlagsOfStatus_wdt (s : State) (f : FlagUpdate) : (s.setFlagsOfStatus f).wdt = s.wdt := rfl
@[simp] theorem State.setFlagsOfStatus_wf1 (s : State) (f : FlagUpdate) : (s.setFlagsOfStatus f).wf1 = s.wf1 := rfl
@[simp] theorem State.setFlagsOfStatus_wf2 (s : State) (f : FlagUpdate) : (s.setFlagsOfStatus f).wf2 = s.wf2 := rfl
@[simp] theorem State.setFlagsOfStatus_halted (s : State) (f : FlagUpdate) : (s.setFlagsOfStatus f).halted = s.halted := rfl
@[simp] theorem State.setFlagsOfStatus_pads (s : State) (f : FlagUpdate) : (s.setFlagsOfStatus f).pads = s.pads := rfl
@[simp] theorem State.setFlagsOfStatus_lastInt (s : State) (f : FlagUpdate) : (s.setFlagsOfStatus f).lastInt = s.lastInt := rfl
@[simp] theorem State.setFlagsOfStatus_lastPa (s : State) (f : FlagUpdate) : (s.setFlagsOfStatus f).lastPa = s.lastPa := rfl
@[simp] theorem State.setFlagsOfStatus_lastTmr1 (s : State) (f : FlagUpdate) : (s.setFlagsOfStatus f).lastTmr1 = s.lastTmr1 := rfl
@[simp] theorem State.setFlagsOfStatus_cyc (s : State) (f : FlagUpdate) : (s.setFlagsOfStatus f).cyc = s.cyc := rfl
@[simp] theorem State.setFlagsOfStatus_elapsed (s : State) (f : FlagUpdate) : (s.setFlagsOfStatus f).elapsed = s.elapsed := rfl
@[simp] theorem State.setFlagsOfStatus_draws (s : State) (f : FlagUpdate) : (s.setFlagsOfStatus f).draws = s.draws + 1 := rfl
@[simp] theorem State.setFlagsOfStatus_ramDraw (s : State) (f : FlagUpdate) : (s.setFlagsOfStatus f).ramDraw = s.ramDraw := rfl
@[simp] theorem State.setFlagsOfStatus_inputs (s : State) (f : FlagUpdate) : (s.setFlagsOfStatus f).inputs = s.inputs := rfl


/-! ### `State.toAcc` -/

@[simp] theorem State.toAcc_acc (s : State) (r : AluResult) : (s.toAcc r).acc = r.value := rfl
@[simp] theorem State.toAcc_pc (s : State) (r : AluResult) : (s.toAcc r).pc = s.pc := rfl
@[simp] theorem State.toAcc_stk0 (s : State) (r : AluResult) : (s.toAcc r).stk0 = s.stk0 := rfl
@[simp] theorem State.toAcc_stk1 (s : State) (r : AluResult) : (s.toAcc r).stk1 = s.stk1 := rfl
@[simp] theorem State.toAcc_stk2 (s : State) (r : AluResult) : (s.toAcc r).stk2 = s.stk2 := rfl
@[simp] theorem State.toAcc_stk3 (s : State) (r : AluResult) : (s.toAcc r).stk3 = s.stk3 := rfl
@[simp] theorem State.toAcc_sp (s : State) (r : AluResult) : (s.toAcc r).sp = s.sp := rfl
@[simp] theorem State.toAcc_mp0 (s : State) (r : AluResult) : (s.toAcc r).mp0 = s.mp0 := rfl
@[simp] theorem State.toAcc_mp1 (s : State) (r : AluResult) : (s.toAcc r).mp1 = s.mp1 := rfl
@[simp] theorem State.toAcc_tblp (s : State) (r : AluResult) : (s.toAcc r).tblp = s.tblp := rfl
@[simp] theorem State.toAcc_tblh (s : State) (r : AluResult) : (s.toAcc r).tblh = s.tblh := rfl
@[simp] theorem State.toAcc_wdts (s : State) (r : AluResult) : (s.toAcc r).wdts = s.wdts := rfl
@[simp] theorem State.toAcc_flagC (s : State) (r : AluResult) : (s.toAcc r).flagC = r.flags.c.getD s.flagC := rfl
@[simp] theorem State.toAcc_flagAC (s : State) (r : AluResult) : (s.toAcc r).flagAC = r.flags.ac.getD s.flagAC := rfl
@[simp] theorem State.toAcc_flagZ (s : State) (r : AluResult) : (s.toAcc r).flagZ = r.flags.z.getD s.flagZ := rfl
@[simp] theorem State.toAcc_flagOV (s : State) (r : AluResult) : (s.toAcc r).flagOV = r.flags.ov.getD s.flagOV := rfl
@[simp] theorem State.toAcc_flagPD (s : State) (r : AluResult) : (s.toAcc r).flagPD = s.flagPD := rfl
@[simp] theorem State.toAcc_flagTO (s : State) (r : AluResult) : (s.toAcc r).flagTO = s.flagTO := rfl
@[simp] theorem State.toAcc_emi (s : State) (r : AluResult) : (s.toAcc r).emi = s.emi := rfl
@[simp] theorem State.toAcc_eei (s : State) (r : AluResult) : (s.toAcc r).eei = s.eei := rfl
@[simp] theorem State.toAcc_et0i (s : State) (r : AluResult) : (s.toAcc r).et0i = s.et0i := rfl
@[simp] theorem State.toAcc_et1i (s : State) (r : AluResult) : (s.toAcc r).et1i = s.et1i := rfl
@[simp] theorem State.toAcc_eif (s : State) (r : AluResult) : (s.toAcc r).eif = s.eif := rfl
@[simp] theorem State.toAcc_t0f (s : State) (r : AluResult) : (s.toAcc r).t0f = s.t0f := rfl
@[simp] theorem State.toAcc_t1f (s : State) (r : AluResult) : (s.toAcc r).t1f = s.t1f := rfl
@[simp] theorem State.toAcc_tmr0 (s : State) (r : AluResult) : (s.toAcc r).tmr0 = s.tmr0 := rfl
@[simp] theorem State.toAcc_lowbuf0 (s : State) (r : AluResult) : (s.toAcc r).lowbuf0 = s.lowbuf0 := rfl
@[simp] theorem State.toAcc_tmr1 (s : State) (r : AluResult) : (s.toAcc r).tmr1 = s.tmr1 := rfl
@[simp] theorem State.toAcc_paLatch (s : State) (r : AluResult) : (s.toAcc r).paLatch = s.paLatch := rfl
@[simp] theorem State.toAcc_pbLatch (s : State) (r : AluResult) : (s.toAcc r).pbLatch = s.pbLatch := rfl
@[simp] theorem State.toAcc_pcLatch (s : State) (r : AluResult) : (s.toAcc r).pcLatch = s.pcLatch := rfl
@[simp] theorem State.toAcc_pdLatch (s : State) (r : AluResult) : (s.toAcc r).pdLatch = s.pdLatch := rfl
@[simp] theorem State.toAcc_pac (s : State) (r : AluResult) : (s.toAcc r).pac = s.pac := rfl
@[simp] theorem State.toAcc_pbc (s : State) (r : AluResult) : (s.toAcc r).pbc = s.pbc := rfl
@[simp] theorem State.toAcc_pcc (s : State) (r : AluResult) : (s.toAcc r).pcc = s.pcc := rfl
@[simp] theorem State.toAcc_pdc (s : State) (r : AluResult) : (s.toAcc r).pdc = s.pdc := rfl
@[simp] theorem State.toAcc_ram (s : State) (r : AluResult) : (s.toAcc r).ram = s.ram := rfl
@[simp] theorem State.toAcc_rom (s : State) (r : AluResult) : (s.toAcc r).rom = s.rom := rfl
@[simp] theorem State.toAcc_opt (s : State) (r : AluResult) : (s.toAcc r).opt = s.opt := rfl
@[simp] theorem State.toAcc_wdt (s : State) (r : AluResult) : (s.toAcc r).wdt = s.wdt := rfl
@[simp] theorem State.toAcc_wf1 (s : State) (r : AluResult) : (s.toAcc r).wf1 = s.wf1 := rfl
@[simp] theorem State.toAcc_wf2 (s : State) (r : AluResult) : (s.toAcc r).wf2 = s.wf2 := rfl
@[simp] theorem State.toAcc_halted (s : State) (r : AluResult) : (s.toAcc r).halted = s.halted := rfl
@[simp] theorem State.toAcc_pads (s : State) (r : AluResult) : (s.toAcc r).pads = s.pads := rfl
@[simp] theorem State.toAcc_lastInt (s : State) (r : AluResult) : (s.toAcc r).lastInt = s.lastInt := rfl
@[simp] theorem State.toAcc_lastPa (s : State) (r : AluResult) : (s.toAcc r).lastPa = s.lastPa := rfl
@[simp] theorem State.toAcc_lastTmr1 (s : State) (r : AluResult) : (s.toAcc r).lastTmr1 = s.lastTmr1 := rfl
@[simp] theorem State.toAcc_cyc (s : State) (r : AluResult) : (s.toAcc r).cyc = s.cyc := rfl
@[simp] theorem State.toAcc_elapsed (s : State) (r : AluResult) : (s.toAcc r).elapsed = s.elapsed := rfl
@[simp] theorem State.toAcc_draws (s : State) (r : AluResult) : (s.toAcc r).draws = s.draws := rfl
@[simp] theorem State.toAcc_ramDraw (s : State) (r : AluResult) : (s.toAcc r).ramDraw = s.ramDraw := rfl
@[simp] theorem State.toAcc_inputs (s : State) (r : AluResult) : (s.toAcc r).inputs = s.inputs := rfl


/-! ### `State.skipIf` -/

@[simp] theorem State.skipIf_acc (s : State) (b : Bool) : (s.skipIf b).acc = s.acc := rfl
@[simp] theorem State.skipIf_pc (s : State) (b : Bool) : (s.skipIf b).pc = if b then s.pc + 1 else s.pc := rfl
@[simp] theorem State.skipIf_stk0 (s : State) (b : Bool) : (s.skipIf b).stk0 = s.stk0 := rfl
@[simp] theorem State.skipIf_stk1 (s : State) (b : Bool) : (s.skipIf b).stk1 = s.stk1 := rfl
@[simp] theorem State.skipIf_stk2 (s : State) (b : Bool) : (s.skipIf b).stk2 = s.stk2 := rfl
@[simp] theorem State.skipIf_stk3 (s : State) (b : Bool) : (s.skipIf b).stk3 = s.stk3 := rfl
@[simp] theorem State.skipIf_sp (s : State) (b : Bool) : (s.skipIf b).sp = s.sp := rfl
@[simp] theorem State.skipIf_mp0 (s : State) (b : Bool) : (s.skipIf b).mp0 = s.mp0 := rfl
@[simp] theorem State.skipIf_mp1 (s : State) (b : Bool) : (s.skipIf b).mp1 = s.mp1 := rfl
@[simp] theorem State.skipIf_tblp (s : State) (b : Bool) : (s.skipIf b).tblp = s.tblp := rfl
@[simp] theorem State.skipIf_tblh (s : State) (b : Bool) : (s.skipIf b).tblh = s.tblh := rfl
@[simp] theorem State.skipIf_wdts (s : State) (b : Bool) : (s.skipIf b).wdts = s.wdts := rfl
@[simp] theorem State.skipIf_flagC (s : State) (b : Bool) : (s.skipIf b).flagC = s.flagC := rfl
@[simp] theorem State.skipIf_flagAC (s : State) (b : Bool) : (s.skipIf b).flagAC = s.flagAC := rfl
@[simp] theorem State.skipIf_flagZ (s : State) (b : Bool) : (s.skipIf b).flagZ = s.flagZ := rfl
@[simp] theorem State.skipIf_flagOV (s : State) (b : Bool) : (s.skipIf b).flagOV = s.flagOV := rfl
@[simp] theorem State.skipIf_flagPD (s : State) (b : Bool) : (s.skipIf b).flagPD = s.flagPD := rfl
@[simp] theorem State.skipIf_flagTO (s : State) (b : Bool) : (s.skipIf b).flagTO = s.flagTO := rfl
@[simp] theorem State.skipIf_emi (s : State) (b : Bool) : (s.skipIf b).emi = s.emi := rfl
@[simp] theorem State.skipIf_eei (s : State) (b : Bool) : (s.skipIf b).eei = s.eei := rfl
@[simp] theorem State.skipIf_et0i (s : State) (b : Bool) : (s.skipIf b).et0i = s.et0i := rfl
@[simp] theorem State.skipIf_et1i (s : State) (b : Bool) : (s.skipIf b).et1i = s.et1i := rfl
@[simp] theorem State.skipIf_eif (s : State) (b : Bool) : (s.skipIf b).eif = s.eif := rfl
@[simp] theorem State.skipIf_t0f (s : State) (b : Bool) : (s.skipIf b).t0f = s.t0f := rfl
@[simp] theorem State.skipIf_t1f (s : State) (b : Bool) : (s.skipIf b).t1f = s.t1f := rfl
@[simp] theorem State.skipIf_tmr0 (s : State) (b : Bool) : (s.skipIf b).tmr0 = s.tmr0 := rfl
@[simp] theorem State.skipIf_lowbuf0 (s : State) (b : Bool) : (s.skipIf b).lowbuf0 = s.lowbuf0 := rfl
@[simp] theorem State.skipIf_tmr1 (s : State) (b : Bool) : (s.skipIf b).tmr1 = s.tmr1 := rfl
@[simp] theorem State.skipIf_paLatch (s : State) (b : Bool) : (s.skipIf b).paLatch = s.paLatch := rfl
@[simp] theorem State.skipIf_pbLatch (s : State) (b : Bool) : (s.skipIf b).pbLatch = s.pbLatch := rfl
@[simp] theorem State.skipIf_pcLatch (s : State) (b : Bool) : (s.skipIf b).pcLatch = s.pcLatch := rfl
@[simp] theorem State.skipIf_pdLatch (s : State) (b : Bool) : (s.skipIf b).pdLatch = s.pdLatch := rfl
@[simp] theorem State.skipIf_pac (s : State) (b : Bool) : (s.skipIf b).pac = s.pac := rfl
@[simp] theorem State.skipIf_pbc (s : State) (b : Bool) : (s.skipIf b).pbc = s.pbc := rfl
@[simp] theorem State.skipIf_pcc (s : State) (b : Bool) : (s.skipIf b).pcc = s.pcc := rfl
@[simp] theorem State.skipIf_pdc (s : State) (b : Bool) : (s.skipIf b).pdc = s.pdc := rfl
@[simp] theorem State.skipIf_ram (s : State) (b : Bool) : (s.skipIf b).ram = s.ram := rfl
@[simp] theorem State.skipIf_rom (s : State) (b : Bool) : (s.skipIf b).rom = s.rom := rfl
@[simp] theorem State.skipIf_opt (s : State) (b : Bool) : (s.skipIf b).opt = s.opt := rfl
@[simp] theorem State.skipIf_wdt (s : State) (b : Bool) : (s.skipIf b).wdt = s.wdt := rfl
@[simp] theorem State.skipIf_wf1 (s : State) (b : Bool) : (s.skipIf b).wf1 = s.wf1 := rfl
@[simp] theorem State.skipIf_wf2 (s : State) (b : Bool) : (s.skipIf b).wf2 = s.wf2 := rfl
@[simp] theorem State.skipIf_halted (s : State) (b : Bool) : (s.skipIf b).halted = s.halted := rfl
@[simp] theorem State.skipIf_pads (s : State) (b : Bool) : (s.skipIf b).pads = s.pads := rfl
@[simp] theorem State.skipIf_lastInt (s : State) (b : Bool) : (s.skipIf b).lastInt = s.lastInt := rfl
@[simp] theorem State.skipIf_lastPa (s : State) (b : Bool) : (s.skipIf b).lastPa = s.lastPa := rfl
@[simp] theorem State.skipIf_lastTmr1 (s : State) (b : Bool) : (s.skipIf b).lastTmr1 = s.lastTmr1 := rfl
@[simp] theorem State.skipIf_cyc (s : State) (b : Bool) : (s.skipIf b).cyc = if b then s.cyc + 1 else s.cyc := rfl
@[simp] theorem State.skipIf_elapsed (s : State) (b : Bool) : (s.skipIf b).elapsed = s.elapsed := rfl
@[simp] theorem State.skipIf_draws (s : State) (b : Bool) : (s.skipIf b).draws = s.draws := rfl
@[simp] theorem State.skipIf_ramDraw (s : State) (b : Bool) : (s.skipIf b).ramDraw = s.ramDraw := rfl
@[simp] theorem State.skipIf_inputs (s : State) (b : Bool) : (s.skipIf b).inputs = s.inputs := rfl


/-! ### `State.jumpTo` -/

@[simp] theorem State.jumpTo_acc (s : State) (a : Addr) : (s.jumpTo a).acc = s.acc := rfl
@[simp] theorem State.jumpTo_pc (s : State) (a : Addr) : (s.jumpTo a).pc = a := rfl
@[simp] theorem State.jumpTo_stk0 (s : State) (a : Addr) : (s.jumpTo a).stk0 = s.stk0 := rfl
@[simp] theorem State.jumpTo_stk1 (s : State) (a : Addr) : (s.jumpTo a).stk1 = s.stk1 := rfl
@[simp] theorem State.jumpTo_stk2 (s : State) (a : Addr) : (s.jumpTo a).stk2 = s.stk2 := rfl
@[simp] theorem State.jumpTo_stk3 (s : State) (a : Addr) : (s.jumpTo a).stk3 = s.stk3 := rfl
@[simp] theorem State.jumpTo_sp (s : State) (a : Addr) : (s.jumpTo a).sp = s.sp := rfl
@[simp] theorem State.jumpTo_mp0 (s : State) (a : Addr) : (s.jumpTo a).mp0 = s.mp0 := rfl
@[simp] theorem State.jumpTo_mp1 (s : State) (a : Addr) : (s.jumpTo a).mp1 = s.mp1 := rfl
@[simp] theorem State.jumpTo_tblp (s : State) (a : Addr) : (s.jumpTo a).tblp = s.tblp := rfl
@[simp] theorem State.jumpTo_tblh (s : State) (a : Addr) : (s.jumpTo a).tblh = s.tblh := rfl
@[simp] theorem State.jumpTo_wdts (s : State) (a : Addr) : (s.jumpTo a).wdts = s.wdts := rfl
@[simp] theorem State.jumpTo_flagC (s : State) (a : Addr) : (s.jumpTo a).flagC = s.flagC := rfl
@[simp] theorem State.jumpTo_flagAC (s : State) (a : Addr) : (s.jumpTo a).flagAC = s.flagAC := rfl
@[simp] theorem State.jumpTo_flagZ (s : State) (a : Addr) : (s.jumpTo a).flagZ = s.flagZ := rfl
@[simp] theorem State.jumpTo_flagOV (s : State) (a : Addr) : (s.jumpTo a).flagOV = s.flagOV := rfl
@[simp] theorem State.jumpTo_flagPD (s : State) (a : Addr) : (s.jumpTo a).flagPD = s.flagPD := rfl
@[simp] theorem State.jumpTo_flagTO (s : State) (a : Addr) : (s.jumpTo a).flagTO = s.flagTO := rfl
@[simp] theorem State.jumpTo_emi (s : State) (a : Addr) : (s.jumpTo a).emi = s.emi := rfl
@[simp] theorem State.jumpTo_eei (s : State) (a : Addr) : (s.jumpTo a).eei = s.eei := rfl
@[simp] theorem State.jumpTo_et0i (s : State) (a : Addr) : (s.jumpTo a).et0i = s.et0i := rfl
@[simp] theorem State.jumpTo_et1i (s : State) (a : Addr) : (s.jumpTo a).et1i = s.et1i := rfl
@[simp] theorem State.jumpTo_eif (s : State) (a : Addr) : (s.jumpTo a).eif = s.eif := rfl
@[simp] theorem State.jumpTo_t0f (s : State) (a : Addr) : (s.jumpTo a).t0f = s.t0f := rfl
@[simp] theorem State.jumpTo_t1f (s : State) (a : Addr) : (s.jumpTo a).t1f = s.t1f := rfl
@[simp] theorem State.jumpTo_tmr0 (s : State) (a : Addr) : (s.jumpTo a).tmr0 = s.tmr0 := rfl
@[simp] theorem State.jumpTo_lowbuf0 (s : State) (a : Addr) : (s.jumpTo a).lowbuf0 = s.lowbuf0 := rfl
@[simp] theorem State.jumpTo_tmr1 (s : State) (a : Addr) : (s.jumpTo a).tmr1 = s.tmr1 := rfl
@[simp] theorem State.jumpTo_paLatch (s : State) (a : Addr) : (s.jumpTo a).paLatch = s.paLatch := rfl
@[simp] theorem State.jumpTo_pbLatch (s : State) (a : Addr) : (s.jumpTo a).pbLatch = s.pbLatch := rfl
@[simp] theorem State.jumpTo_pcLatch (s : State) (a : Addr) : (s.jumpTo a).pcLatch = s.pcLatch := rfl
@[simp] theorem State.jumpTo_pdLatch (s : State) (a : Addr) : (s.jumpTo a).pdLatch = s.pdLatch := rfl
@[simp] theorem State.jumpTo_pac (s : State) (a : Addr) : (s.jumpTo a).pac = s.pac := rfl
@[simp] theorem State.jumpTo_pbc (s : State) (a : Addr) : (s.jumpTo a).pbc = s.pbc := rfl
@[simp] theorem State.jumpTo_pcc (s : State) (a : Addr) : (s.jumpTo a).pcc = s.pcc := rfl
@[simp] theorem State.jumpTo_pdc (s : State) (a : Addr) : (s.jumpTo a).pdc = s.pdc := rfl
@[simp] theorem State.jumpTo_ram (s : State) (a : Addr) : (s.jumpTo a).ram = s.ram := rfl
@[simp] theorem State.jumpTo_rom (s : State) (a : Addr) : (s.jumpTo a).rom = s.rom := rfl
@[simp] theorem State.jumpTo_opt (s : State) (a : Addr) : (s.jumpTo a).opt = s.opt := rfl
@[simp] theorem State.jumpTo_wdt (s : State) (a : Addr) : (s.jumpTo a).wdt = s.wdt := rfl
@[simp] theorem State.jumpTo_wf1 (s : State) (a : Addr) : (s.jumpTo a).wf1 = s.wf1 := rfl
@[simp] theorem State.jumpTo_wf2 (s : State) (a : Addr) : (s.jumpTo a).wf2 = s.wf2 := rfl
@[simp] theorem State.jumpTo_halted (s : State) (a : Addr) : (s.jumpTo a).halted = s.halted := rfl
@[simp] theorem State.jumpTo_pads (s : State) (a : Addr) : (s.jumpTo a).pads = s.pads := rfl
@[simp] theorem State.jumpTo_lastInt (s : State) (a : Addr) : (s.jumpTo a).lastInt = s.lastInt := rfl
@[simp] theorem State.jumpTo_lastPa (s : State) (a : Addr) : (s.jumpTo a).lastPa = s.lastPa := rfl
@[simp] theorem State.jumpTo_lastTmr1 (s : State) (a : Addr) : (s.jumpTo a).lastTmr1 = s.lastTmr1 := rfl
@[simp] theorem State.jumpTo_cyc (s : State) (a : Addr) : (s.jumpTo a).cyc = 2 := rfl
@[simp] theorem State.jumpTo_elapsed (s : State) (a : Addr) : (s.jumpTo a).elapsed = s.elapsed := rfl
@[simp] theorem State.jumpTo_draws (s : State) (a : Addr) : (s.jumpTo a).draws = s.draws := rfl
@[simp] theorem State.jumpTo_ramDraw (s : State) (a : Addr) : (s.jumpTo a).ramDraw = s.ramDraw := rfl
@[simp] theorem State.jumpTo_inputs (s : State) (a : Addr) : (s.jumpTo a).inputs = s.inputs := rfl


/-! ### `State.dropTop` -/

@[simp] theorem State.dropTop_acc (s : State) : (s.dropTop).acc = s.acc := rfl
@[simp] theorem State.dropTop_pc (s : State) : (s.dropTop).pc = s.pc := rfl
@[simp] theorem State.dropTop_stk0 (s : State) : (s.dropTop).stk0 = s.stk0 := rfl
@[simp] theorem State.dropTop_stk1 (s : State) : (s.dropTop).stk1 = s.stk1 := rfl
@[simp] theorem State.dropTop_stk2 (s : State) : (s.dropTop).stk2 = s.stk2 := rfl
@[simp] theorem State.dropTop_stk3 (s : State) : (s.dropTop).stk3 = s.stk3 := rfl
@[simp] theorem State.dropTop_sp (s : State) : (s.dropTop).sp = if s.sp = 0 then 0 else s.sp - 1 := rfl
@[simp] theorem State.dropTop_mp0 (s : State) : (s.dropTop).mp0 = s.mp0 := rfl
@[simp] theorem State.dropTop_mp1 (s : State) : (s.dropTop).mp1 = s.mp1 := rfl
@[simp] theorem State.dropTop_tblp (s : State) : (s.dropTop).tblp = s.tblp := rfl
@[simp] theorem State.dropTop_tblh (s : State) : (s.dropTop).tblh = s.tblh := rfl
@[simp] theorem State.dropTop_wdts (s : State) : (s.dropTop).wdts = s.wdts := rfl
@[simp] theorem State.dropTop_flagC (s : State) : (s.dropTop).flagC = s.flagC := rfl
@[simp] theorem State.dropTop_flagAC (s : State) : (s.dropTop).flagAC = s.flagAC := rfl
@[simp] theorem State.dropTop_flagZ (s : State) : (s.dropTop).flagZ = s.flagZ := rfl
@[simp] theorem State.dropTop_flagOV (s : State) : (s.dropTop).flagOV = s.flagOV := rfl
@[simp] theorem State.dropTop_flagPD (s : State) : (s.dropTop).flagPD = s.flagPD := rfl
@[simp] theorem State.dropTop_flagTO (s : State) : (s.dropTop).flagTO = s.flagTO := rfl
@[simp] theorem State.dropTop_emi (s : State) : (s.dropTop).emi = s.emi := rfl
@[simp] theorem State.dropTop_eei (s : State) : (s.dropTop).eei = s.eei := rfl
@[simp] theorem State.dropTop_et0i (s : State) : (s.dropTop).et0i = s.et0i := rfl
@[simp] theorem State.dropTop_et1i (s : State) : (s.dropTop).et1i = s.et1i := rfl
@[simp] theorem State.dropTop_eif (s : State) : (s.dropTop).eif = s.eif := rfl
@[simp] theorem State.dropTop_t0f (s : State) : (s.dropTop).t0f = s.t0f := rfl
@[simp] theorem State.dropTop_t1f (s : State) : (s.dropTop).t1f = s.t1f := rfl
@[simp] theorem State.dropTop_tmr0 (s : State) : (s.dropTop).tmr0 = s.tmr0 := rfl
@[simp] theorem State.dropTop_lowbuf0 (s : State) : (s.dropTop).lowbuf0 = s.lowbuf0 := rfl
@[simp] theorem State.dropTop_tmr1 (s : State) : (s.dropTop).tmr1 = s.tmr1 := rfl
@[simp] theorem State.dropTop_paLatch (s : State) : (s.dropTop).paLatch = s.paLatch := rfl
@[simp] theorem State.dropTop_pbLatch (s : State) : (s.dropTop).pbLatch = s.pbLatch := rfl
@[simp] theorem State.dropTop_pcLatch (s : State) : (s.dropTop).pcLatch = s.pcLatch := rfl
@[simp] theorem State.dropTop_pdLatch (s : State) : (s.dropTop).pdLatch = s.pdLatch := rfl
@[simp] theorem State.dropTop_pac (s : State) : (s.dropTop).pac = s.pac := rfl
@[simp] theorem State.dropTop_pbc (s : State) : (s.dropTop).pbc = s.pbc := rfl
@[simp] theorem State.dropTop_pcc (s : State) : (s.dropTop).pcc = s.pcc := rfl
@[simp] theorem State.dropTop_pdc (s : State) : (s.dropTop).pdc = s.pdc := rfl
@[simp] theorem State.dropTop_ram (s : State) : (s.dropTop).ram = s.ram := rfl
@[simp] theorem State.dropTop_rom (s : State) : (s.dropTop).rom = s.rom := rfl
@[simp] theorem State.dropTop_opt (s : State) : (s.dropTop).opt = s.opt := rfl
@[simp] theorem State.dropTop_wdt (s : State) : (s.dropTop).wdt = s.wdt := rfl
@[simp] theorem State.dropTop_wf1 (s : State) : (s.dropTop).wf1 = s.wf1 := rfl
@[simp] theorem State.dropTop_wf2 (s : State) : (s.dropTop).wf2 = s.wf2 := rfl
@[simp] theorem State.dropTop_halted (s : State) : (s.dropTop).halted = s.halted := rfl
@[simp] theorem State.dropTop_pads (s : State) : (s.dropTop).pads = s.pads := rfl
@[simp] theorem State.dropTop_lastInt (s : State) : (s.dropTop).lastInt = s.lastInt := rfl
@[simp] theorem State.dropTop_lastPa (s : State) : (s.dropTop).lastPa = s.lastPa := rfl
@[simp] theorem State.dropTop_lastTmr1 (s : State) : (s.dropTop).lastTmr1 = s.lastTmr1 := rfl
@[simp] theorem State.dropTop_cyc (s : State) : (s.dropTop).cyc = s.cyc := rfl
@[simp] theorem State.dropTop_elapsed (s : State) : (s.dropTop).elapsed = s.elapsed := rfl
@[simp] theorem State.dropTop_draws (s : State) : (s.dropTop).draws = s.draws := rfl
@[simp] theorem State.dropTop_ramDraw (s : State) : (s.dropTop).ramDraw = s.ramDraw := rfl
@[simp] theorem State.dropTop_inputs (s : State) : (s.dropTop).inputs = s.inputs := rfl


/-! ### `State.clearWatchdog` -/

@[simp] theorem State.clearWatchdog_acc (s : State) : (s.clearWatchdog).acc = s.acc := rfl
@[simp] theorem State.clearWatchdog_pc (s : State) : (s.clearWatchdog).pc = s.pc := rfl
@[simp] theorem State.clearWatchdog_stk0 (s : State) : (s.clearWatchdog).stk0 = s.stk0 := rfl
@[simp] theorem State.clearWatchdog_stk1 (s : State) : (s.clearWatchdog).stk1 = s.stk1 := rfl
@[simp] theorem State.clearWatchdog_stk2 (s : State) : (s.clearWatchdog).stk2 = s.stk2 := rfl
@[simp] theorem State.clearWatchdog_stk3 (s : State) : (s.clearWatchdog).stk3 = s.stk3 := rfl
@[simp] theorem State.clearWatchdog_sp (s : State) : (s.clearWatchdog).sp = s.sp := rfl
@[simp] theorem State.clearWatchdog_mp0 (s : State) : (s.clearWatchdog).mp0 = s.mp0 := rfl
@[simp] theorem State.clearWatchdog_mp1 (s : State) : (s.clearWatchdog).mp1 = s.mp1 := rfl
@[simp] theorem State.clearWatchdog_tblp (s : State) : (s.clearWatchdog).tblp = s.tblp := rfl
@[simp] theorem State.clearWatchdog_tblh (s : State) : (s.clearWatchdog).tblh = s.tblh := rfl
@[simp] theorem State.clearWatchdog_wdts (s : State) : (s.clearWatchdog).wdts = s.wdts := rfl
@[simp] theorem State.clearWatchdog_flagC (s : State) : (s.clearWatchdog).flagC = s.flagC := rfl
@[simp] theorem State.clearWatchdog_flagAC (s : State) : (s.clearWatchdog).flagAC = s.flagAC := rfl
@[simp] theorem State.clearWatchdog_flagZ (s : State) : (s.clearWatchdog).flagZ = s.flagZ := rfl
@[simp] theorem State.clearWatchdog_flagOV (s : State) : (s.clearWatchdog).flagOV = s.flagOV := rfl
@[simp] theorem State.clearWatchdog_flagPD (s : State) : (s.clearWatchdog).flagPD = false := rfl
@[simp] theorem State.clearWatchdog_flagTO (s : State) : (s.clearWatchdog).flagTO = false := rfl
@[simp] theorem State.clearWatchdog_emi (s : State) : (s.clearWatchdog).emi = s.emi := rfl
@[simp] theorem State.clearWatchdog_eei (s : State) : (s.clearWatchdog).eei = s.eei := rfl
@[simp] theorem State.clearWatchdog_et0i (s : State) : (s.clearWatchdog).et0i = s.et0i := rfl
@[simp] theorem State.clearWatchdog_et1i (s : State) : (s.clearWatchdog).et1i = s.et1i := rfl
@[simp] theorem State.clearWatchdog_eif (s : State) : (s.clearWatchdog).eif = s.eif := rfl
@[simp] theorem State.clearWatchdog_t0f (s : State) : (s.clearWatchdog).t0f = s.t0f := rfl
@[simp] theorem State.clearWatchdog_t1f (s : State) : (s.clearWatchdog).t1f = s.t1f := rfl
@[simp] theorem State.clearWatchdog_tmr0 (s : State) : (s.clearWatchdog).tmr0 = s.tmr0 := rfl
@[simp] theorem State.clearWatchdog_lowbuf0 (s : State) : (s.clearWatchdog).lowbuf0 = s.lowbuf0 := rfl
@[simp] theorem State.clearWatchdog_tmr1 (s : State) : (s.clearWatchdog).tmr1 = s.tmr1 := rfl
@[simp] theorem State.clearWatchdog_paLatch (s : State) : (s.clearWatchdog).paLatch = s.paLatch := rfl
@[simp] theorem State.clearWatchdog_pbLatch (s : State) : (s.clearWatchdog).pbLatch = s.pbLatch := rfl
@[simp] theorem State.clearWatchdog_pcLatch (s : State) : (s.clearWatchdog).pcLatch = s.pcLatch := rfl
@[simp] theorem State.clearWatchdog_pdLatch (s : State) : (s.clearWatchdog).pdLatch = s.pdLatch := rfl
@[simp] theorem State.clearWatchdog_pac (s : State) : (s.clearWatchdog).pac = s.pac := rfl
@[simp] theorem State.clearWatchdog_pbc (s : State) : (s.clearWatchdog).pbc = s.pbc := rfl
@[simp] theorem State.clearWatchdog_pcc (s : State) : (s.clearWatchdog).pcc = s.pcc := rfl
@[simp] theorem State.clearWatchdog_pdc (s : State) : (s.clearWatchdog).pdc = s.pdc := rfl
@[simp] theorem State.clearWatchdog_ram (s : State) : (s.clearWatchdog).ram = s.ram := rfl
@[simp] theorem State.clearWatchdog_rom (s : State) : (s.clearWatchdog).rom = s.rom := rfl
@[simp] theorem State.clearWatchdog_opt (s : State) : (s.clearWatchdog).opt = s.opt := rfl
@[simp] theorem State.clearWatchdog_wdt (s : State) : (s.clearWatchdog).wdt = 0 := rfl
@[simp] theorem State.clearWatchdog_wf1 (s : State) : (s.clearWatchdog).wf1 = s.wf1 := rfl
@[simp] theorem State.clearWatchdog_wf2 (s : State) : (s.clearWatchdog).wf2 = s.wf2 := rfl
@[simp] theorem State.clearWatchdog_halted (s : State) : (s.clearWatchdog).halted = s.halted := rfl
@[simp] theorem State.clearWatchdog_pads (s : State) : (s.clearWatchdog).pads = s.pads := rfl
@[simp] theorem State.clearWatchdog_lastInt (s : State) : (s.clearWatchdog).lastInt = s.lastInt := rfl
@[simp] theorem State.clearWatchdog_lastPa (s : State) : (s.clearWatchdog).lastPa = s.lastPa := rfl
@[simp] theorem State.clearWatchdog_lastTmr1 (s : State) : (s.clearWatchdog).lastTmr1 = s.lastTmr1 := rfl
@[simp] theorem State.clearWatchdog_cyc (s : State) : (s.clearWatchdog).cyc = s.cyc := rfl
@[simp] theorem State.clearWatchdog_elapsed (s : State) : (s.clearWatchdog).elapsed = s.elapsed := rfl
@[simp] theorem State.clearWatchdog_draws (s : State) : (s.clearWatchdog).draws = s.draws := rfl
@[simp] theorem State.clearWatchdog_ramDraw (s : State) : (s.clearWatchdog).ramDraw = s.ramDraw := rfl
@[simp] theorem State.clearWatchdog_inputs (s : State) : (s.clearWatchdog).inputs = s.inputs := rfl

end Sys2Proof.Machine
end

