-- ==== Sys2Proof/Laws/Operands.lean ====
section
/-! SUPPORT. What the read and the write of an operand can do, said once: later proofs cite these and never unfold the
address table. -/

namespace Sys2Proof.Machine

/-- Everything a write to a data cell can do (20_memory.md R64), field by field. -/
theorem State.cellWrite_eq (s : State) (t v : Byte) :
    s.cellWrite t v = { s with
      acc := if t = 0x05#8 then v else s.acc
      pc := if t = 0x06#8 then s.pc.extractLsb' 8 4 ++ v else s.pc
      mp0 := if t = 0x01#8 then v else s.mp0
      mp1 := if t = 0x03#8 then v else s.mp1
      tblp := if t = 0x07#8 then v else s.tblp
      wdts := if t = 0x09#8 then v else s.wdts
      flagC := if t = 0x0A#8 then v.getLsbD 0 else s.flagC
      flagAC := if t = 0x0A#8 then v.getLsbD 1 else s.flagAC
      flagZ := if t = 0x0A#8 then v.getLsbD 2 else s.flagZ
      flagOV := if t = 0x0A#8 then v.getLsbD 3 else s.flagOV
      emi := if t = 0x0B#8 then v.getLsbD 0 else s.emi
      eei := if t = 0x0B#8 then v.getLsbD 1 else s.eei
      et0i := if t = 0x0B#8 then v.getLsbD 2 else s.et0i
      et1i := if t = 0x0B#8 then v.getLsbD 3 else s.et1i
      eif := if t = 0x0B#8 then v.getLsbD 4 else s.eif
      t0f := if t = 0x0B#8 then v.getLsbD 5 else s.t0f
      t1f := if t = 0x0B#8 then v.getLsbD 6 else s.t1f
      tmr0 := if t = 0x0C#8 then s.tmr0.writePreload (v ++ s.lowbuf0) else if t = 0x0E#8 then s.tmr0.writeControl v else s.tmr0
      lowbuf0 := if t = 0x0D#8 then v else s.lowbuf0
      tmr1 := if t = 0x10#8 then s.tmr1.writePreload v else if t = 0x11#8 then s.tmr1.writeControl v else s.tmr1
      paLatch := if t = 0x12#8 then v else s.paLatch
      pbLatch := if t = 0x14#8 then v else s.pbLatch
      pcLatch := if t = 0x16#8 then v else s.pcLatch
      pdLatch := if t = 0x18#8 then v else s.pdLatch
      pac := if t = 0x13#8 then v else s.pac
      pbc := if t = 0x15#8 then v else s.pbc
      pcc := if t = 0x17#8 then v else s.pcc
      pdc := if t = 0x19#8 then v else s.pdc
      ram := if 0x60 ≤ t.toNat then Memory.set s.ram t.toNat (some v) else s.ram
      cyc := if t = 0x06#8 then s.cyc + 1 else s.cyc } := by
  unfold State.cellWrite
  split
  · next h =>
    have key : ∀ k : Byte, k.toNat < 0x60 → (t = k) = False := fun k hk => eq_false fun e => by subst e; omega
    simp [key]
  · next h =>
    have key : ∀ k : Nat, k < 256 → (t.toNat = k ↔ t = BitVec.ofNat 8 k) := fun k hk => by
      rw [← BitVec.toNat_inj, BitVec.toNat_ofNat, Nat.mod_eq_of_lt hk]
    split

    · next e => obtain rfl := (key 0x01 (by decide)).1 e; simp
    · next e => obtain rfl := (key 0x03 (by decide)).1 e; simp
    · next e => obtain rfl := (key 0x05 (by decide)).1 e; simp
    · next e => obtain rfl := (key 0x06 (by decide)).1 e; simp
    · next e => obtain rfl := (key 0x07 (by decide)).1 e; simp
    · next e => obtain rfl := (key 0x09 (by decide)).1 e; simp
    · next e => obtain rfl := (key 0x0A (by decide)).1 e; simp
    · next e => obtain rfl := (key 0x0B (by decide)).1 e; simp
    · next e => obtain rfl := (key 0x0C (by decide)).1 e; simp
    · next e => obtain rfl := (key 0x0D (by decide)).1 e; simp
    · next e => obtain rfl := (key 0x0E (by decide)).1 e; simp
    · next e => obtain rfl := (key 0x10 (by decide)).1 e; simp
    · next e => obtain rfl := (key 0x11 (by decide)).1 e; simp
    · next e => obtain rfl := (key 0x12 (by decide)).1 e; simp
    · next e => obtain rfl := (key 0x13 (by decide)).1 e; simp
    · next e => obtain rfl := (key 0x14 (by decide)).1 e; simp
    · next e => obtain rfl := (key 0x15 (by decide)).1 e; simp
    · next e => obtain rfl := (key 0x16 (by decide)).1 e; simp
    · next e => obtain rfl := (key 0x17 (by decide)).1 e; simp
    · next e => obtain rfl := (key 0x18 (by decide)).1 e; simp
    · next e => obtain rfl := (key 0x19 (by decide)).1 e; simp
    · have off : ∀ (k : Byte) (n : Nat), k.toNat = n → (t.toNat = n → False) → (t = k) = False :=
        fun k n hk hn => eq_false fun e => hn (by rw [e, hk])
      simp only [if_false,
        off 0x01#8 0x01 rfl ‹_›, off 0x03#8 0x03 rfl ‹_›, off 0x05#8 0x05 rfl ‹_›, off 0x06#8 0x06 rfl ‹_›,
        off 0x07#8 0x07 rfl ‹_›, off 0x09#8 0x09 rfl ‹_›, off 0x0A#8 0x0A rfl ‹_›, off 0x0B#8 0x0B rfl ‹_›,
        off 0x0C#8 0x0C rfl ‹_›, off 0x0D#8 0x0D rfl ‹_›, off 0x0E#8 0x0E rfl ‹_›, off 0x10#8 0x10 rfl ‹_›,
        off 0x11#8 0x11 rfl ‹_›, off 0x12#8 0x12 rfl ‹_›, off 0x13#8 0x13 rfl ‹_›, off 0x14#8 0x14 rfl ‹_›,
        off 0x15#8 0x15 rfl ‹_›, off 0x16#8 0x16 rfl ‹_›, off 0x17#8 0x17 rfl ‹_›, off 0x18#8 0x18 rfl ‹_›,
        off 0x19#8 0x19 rfl ‹_›]

/-! ### What a write leaves in each field -/

theorem State.cellWrite_acc (s : State) (t v : Byte) : (s.cellWrite t v).acc =
    if t = 0x05#8 then v else s.acc := by rw [State.cellWrite_eq]
theorem State.cellWrite_pc (s : State) (t v : Byte) : (s.cellWrite t v).pc =
    if t = 0x06#8 then s.pc.extractLsb' 8 4 ++ v else s.pc := by rw [State.cellWrite_eq]
@[simp] theorem State.cellWrite_stk0 (s : State) (t v : Byte) : (s.cellWrite t v).stk0 = s.stk0 := by
  rw [State.cellWrite_eq]
@[simp] theorem State.cellWrite_stk1 (s : State) (t v : Byte) : (s.cellWrite t v).stk1 = s.stk1 := by
  rw [State.cellWrite_eq]
@[simp] theorem State.cellWrite_stk2 (s : State) (t v : Byte) : (s.cellWrite t v).stk2 = s.stk2 := by
  rw [State.cellWrite_eq]
@[simp] theorem State.cellWrite_stk3 (s : State) (t v : Byte) : (s.cellWrite t v).stk3 = s.stk3 := by
  rw [State.cellWrite_eq]
@[simp] theorem State.cellWrite_sp (s : State) (t v : Byte) : (s.cellWrite t v).sp = s.sp := by
  rw [State.cellWrite_eq]
theorem State.cellWrite_mp0 (s : State) (t v : Byte) : (s.cellWrite t v).mp0 =
    if t = 0x01#8 then v else s.mp0 := by rw [State.cellWrite_eq]
theorem State.cellWrite_mp1 (s : State) (t v : Byte) : (s.cellWrite t v).mp1 =
    if t = 0x03#8 then v else s.mp1 := by rw [State.cellWrite_eq]
theorem State.cellWrite_tblp (s : State) (t v : Byte) : (s.cellWrite t v).tblp =
    if t = 0x07#8 then v else s.tblp := by rw [State.cellWrite_eq]
@[simp] theorem State.cellWrite_tblh (s : State) (t v : Byte) : (s.cellWrite t v).tblh = s.tblh := by
  rw [State.cellWrite_eq]
theorem State.cellWrite_wdts (s : State) (t v : Byte) : (s.cellWrite t v).wdts =
    if t = 0x09#8 then v else s.wdts := by rw [State.cellWrite_eq]
theorem State.cellWrite_flagC (s : State) (t v : Byte) : (s.cellWrite t v).flagC =
    if t = 0x0A#8 then v.getLsbD 0 else s.flagC := by rw [State.cellWrite_eq]
theorem State.cellWrite_flagAC (s : State) (t v : Byte) : (s.cellWrite t v).flagAC =
    if t = 0x0A#8 then v.getLsbD 1 else s.flagAC := by rw [State.cellWrite_eq]
theorem State.cellWrite_flagZ (s : State) (t v : Byte) : (s.cellWrite t v).flagZ =
    if t = 0x0A#8 then v.getLsbD 2 else s.flagZ := by rw [State.cellWrite_eq]
theorem State.cellWrite_flagOV (s : State) (t v : Byte) : (s.cellWrite t v).flagOV =
    if t = 0x0A#8 then v.getLsbD 3 else s.flagOV := by rw [State.cellWrite_eq]
@[simp] theorem State.cellWrite_flagPD (s : State) (t v : Byte) : (s.cellWrite t v).flagPD = s.flagPD := by
  rw [State.cellWrite_eq]
@[simp] theorem State.cellWrite_flagTO (s : State) (t v : Byte) : (s.cellWrite t v).flagTO = s.flagTO := by
  rw [State.cellWrite_eq]
theorem State.cellWrite_emi (s : State) (t v : Byte) : (s.cellWrite t v).emi =
    if t = 0x0B#8 then v.getLsbD 0 else s.emi := by rw [State.cellWrite_eq]
theorem State.cellWrite_eei (s : State) (t v : Byte) : (s.cellWrite t v).eei =
    if t = 0x0B#8 then v.getLsbD 1 else s.eei := by rw [State.cellWrite_eq]
theorem State.cellWrite_et0i (s : State) (t v : Byte) : (s.cellWrite t v).et0i =
    if t = 0x0B#8 then v.getLsbD 2 else s.et0i := by rw [State.cellWrite_eq]
theorem State.cellWrite_et1i (s : State) (t v : Byte) : (s.cellWrite t v).et1i =
    if t = 0x0B#8 then v.getLsbD 3 else s.et1i := by rw [State.cellWrite_eq]
theorem State.cellWrite_eif (s : State) (t v : Byte) : (s.cellWrite t v).eif =
    if t = 0x0B#8 then v.getLsbD 4 else s.eif := by rw [State.cellWrite_eq]
theorem State.cellWrite_t0f (s : State) (t v : Byte) : (s.cellWrite t v).t0f =
    if t = 0x0B#8 then v.getLsbD 5 else s.t0f := by rw [State.cellWrite_eq]
theorem State.cellWrite_t1f (s : State) (t v : Byte) : (s.cellWrite t v).t1f =
    if t = 0x0B#8 then v.getLsbD 6 else s.t1f := by rw [State.cellWrite_eq]
theorem State.cellWrite_tmr0 (s : State) (t v : Byte) : (s.cellWrite t v).tmr0 =
    if t = 0x0C#8 then s.tmr0.writePreload (v ++ s.lowbuf0) else if t = 0x0E#8 then s.tmr0.writeControl v else s.tmr0 := by rw [State.cellWrite_eq]
theorem State.cellWrite_lowbuf0 (s : State) (t v : Byte) : (s.cellWrite t v).lowbuf0 =
    if t = 0x0D#8 then v else s.lowbuf0 := by rw [State.cellWrite_eq]
theorem State.cellWrite_tmr1 (s : State) (t v : Byte) : (s.cellWrite t v).tmr1 =
    if t = 0x10#8 then s.tmr1.writePreload v else if t = 0x11#8 then s.tmr1.writeControl v else s.tmr1 := by rw [State.cellWrite_eq]
theorem State.cellWrite_paLatch (s : State) (t v : Byte) : (s.cellWrite t v).paLatch =
    if t = 0x12#8 then v else s.paLatch := by rw [State.cellWrite_eq]
theorem State.cellWrite_pbLatch (s : State) (t v : Byte) : (s.cellWrite t v).pbLatch =
    if t = 0x14#8 then v else s.pbLatch := by rw [State.cellWrite_eq]
theorem State.cellWrite_pcLatch (s : State) (t v : Byte) : (s.cellWrite t v).pcLatch =
    if t = 0x16#8 then v else s.pcLatch := by rw [State.cellWrite_eq]
theorem State.cellWrite_pdLatch (s : State) (t v : Byte) : (s.cellWrite t v).pdLatch =
    if t = 0x18#8 then v else s.pdLatch := by rw [State.cellWrite_eq]
theorem State.cellWrite_pac (s : State) (t v : Byte) : (s.cellWrite t v).pac =
    if t = 0x13#8 then v else s.pac := by rw [State.cellWrite_eq]
theorem State.cellWrite_pbc (s : State) (t v : Byte) : (s.cellWrite t v).pbc =
    if t = 0x15#8 then v else s.pbc := by rw [State.cellWrite_eq]
theorem State.cellWrite_pcc (s : State) (t v : Byte) : (s.cellWrite t v).pcc =
    if t = 0x17#8 then v else s.pcc := by rw [State.cellWrite_eq]
theorem State.cellWrite_pdc (s : State) (t v : Byte) : (s.cellWrite t v).pdc =
    if t = 0x19#8 then v else s.pdc := by rw [State.cellWrite_eq]
theorem State.cellWrite_ram (s : State) (t v : Byte) : (s.cellWrite t v).ram =
    if 0x60 ≤ t.toNat then Memory.set s.ram t.toNat (some v) else s.ram := by rw [State.cellWrite_eq]
@[simp] theorem State.cellWrite_rom (s : State) (t v : Byte) : (s.cellWrite t v).rom = s.rom := by
  rw [State.cellWrite_eq]
@[simp] theorem State.cellWrite_opt (s : State) (t v : Byte) : (s.cellWrite t v).opt = s.opt := by
  rw [State.cellWrite_eq]
@[simp] theorem State.cellWrite_wdt (s : State) (t v : Byte) : (s.cellWrite t v).wdt = s.wdt := by
  rw [State.cellWrite_eq]
@[simp] theorem State.cellWrite_wf1 (s : State) (t v : Byte) : (s.cellWrite t v).wf1 = s.wf1 := by
  rw [State.cellWrite_eq]
@[simp] theorem State.cellWrite_wf2 (s : State) (t v : Byte) : (s.cellWrite t v).wf2 = s.wf2 := by
  rw [State.cellWrite_eq]
@[simp] theorem State.cellWrite_halted (s : State) (t v : Byte) : (s.cellWrite t v).halted = s.halted := by
  rw [State.cellWrite_eq]
@[simp] theorem State.cellWrite_pads (s : State) (t v : Byte) : (s.cellWrite t v).pads = s.pads := by
  rw [State.cellWrite_eq]
@[simp] theorem State.cellWrite_lastInt (s : State) (t v : Byte) : (s.cellWrite t v).lastInt = s.lastInt := by
  rw [State.cellWrite_eq]
@[simp] theorem State.cellWrite_lastPa (s : State) (t v : Byte) : (s.cellWrite t v).lastPa = s.lastPa := by
  rw [State.cellWrite_eq]
@[simp] theorem State.cellWrite_lastTmr1 (s : State) (t v : Byte) : (s.cellWrite t v).lastTmr1 = s.lastTmr1 := by
  rw [State.cellWrite_eq]
theorem State.cellWrite_cyc (s : State) (t v : Byte) : (s.cellWrite t v).cyc =
    if t = 0x06#8 then s.cyc + 1 else s.cyc := by rw [State.cellWrite_eq]
@[simp] theorem State.cellWrite_elapsed (s : State) (t v : Byte) : (s.cellWrite t v).elapsed = s.elapsed := by
  rw [State.cellWrite_eq]
@[simp] theorem State.cellWrite_draws (s : State) (t v : Byte) : (s.cellWrite t v).draws = s.draws := by
  rw [State.cellWrite_eq]
@[simp] theorem State.cellWrite_ramDraw (s : State) (t v : Byte) : (s.cellWrite t v).ramDraw = s.ramDraw := by
  rw [State.cellWrite_eq]
@[simp] theorem State.cellWrite_inputs (s : State) (t v : Byte) : (s.cellWrite t v).inputs = s.inputs := by
  rw [State.cellWrite_eq]
@[simp] theorem State.memWrite_stk0 (s : State) (m v : Byte) : (s.memWrite m v).stk0 = s.stk0 := by
  unfold State.memWrite; split <;> simp
@[simp] theorem State.memWrite_stk1 (s : State) (m v : Byte) : (s.memWrite m v).stk1 = s.stk1 := by
  unfold State.memWrite; split <;> simp
@[simp] theorem State.memWrite_stk2 (s : State) (m v : Byte) : (s.memWrite m v).stk2 = s.stk2 := by
  unfold State.memWrite; split <;> simp
@[simp] theorem State.memWrite_stk3 (s : State) (m v : Byte) : (s.memWrite m v).stk3 = s.stk3 := by
  unfold State.memWrite; split <;> simp
@[simp] theorem State.memWrite_sp (s : State) (m v : Byte) : (s.memWrite m v).sp = s.sp := by
  unfold State.memWrite; split <;> simp
@[simp] theorem State.memWrite_tblh (s : State) (m v : Byte) : (s.memWrite m v).tblh = s.tblh := by
  unfold State.memWrite; split <;> simp
@[simp] theorem State.memWrite_flagPD (s : State) (m v : Byte) : (s.memWrite m v).flagPD = s.flagPD := by
  unfold State.memWrite; split <;> simp
@[simp] theorem State.memWrite_flagTO (s : State) (m v : Byte) : (s.memWrite m v).flagTO = s.flagTO := by
  unfold State.memWrite; split <;> simp
@[simp] theorem State.memWrite_rom (s : State) (m v : Byte) : (s.memWrite m v).rom = s.rom := by
  unfold State.memWrite; split <;> simp
@[simp] theorem State.memWrite_opt (s : State) (m v : Byte) : (s.memWrite m v).opt = s.opt := by
  unfold State.memWrite; split <;> simp
@[simp] theorem State.memWrite_wdt (s : State) (m v : Byte) : (s.memWrite m v).wdt = s.wdt := by
  unfold State.memWrite; split <;> simp
@[simp] theorem State.memWrite_wf1 (s : State) (m v : Byte) : (s.memWrite m v).wf1 = s.wf1 := by
  unfold State.memWrite; split <;> simp
@[simp] theorem State.memWrite_wf2 (s : State) (m v : Byte) : (s.memWrite m v).wf2 = s.wf2 := by
  unfold State.memWrite; split <;> simp
@[simp] theorem State.memWrite_halted (s : State) (m v : Byte) : (s.memWrite m v).halted = s.halted := by
  unfold State.memWrite; split <;> simp
@[simp] theorem State.memWrite_pads (s : State) (m v : Byte) : (s.memWrite m v).pads = s.pads := by
  unfold State.memWrite; split <;> simp
@[simp] theorem State.memWrite_lastInt (s : State) (m v : Byte) : (s.memWrite m v).lastInt = s.lastInt := by
  unfold State.memWrite; split <;> simp
@[simp] theorem State.memWrite_lastPa (s : State) (m v : Byte) : (s.memWrite m v).lastPa = s.lastPa := by
  unfold State.memWrite; split <;> simp
@[simp] theorem State.memWrite_lastTmr1 (s : State) (m v : Byte) : (s.memWrite m v).lastTmr1 = s.lastTmr1 := by
  unfold State.memWrite; split <;> simp
@[simp] theorem State.memWrite_elapsed (s : State) (m v : Byte) : (s.memWrite m v).elapsed = s.elapsed := by
  unfold State.memWrite; split <;> simp
@[simp] theorem State.memWrite_draws (s : State) (m v : Byte) : (s.memWrite m v).draws = s.draws := by
  unfold State.memWrite; split <;> simp
@[simp] theorem State.memWrite_ramDraw (s : State) (m v : Byte) : (s.memWrite m v).ramDraw = s.ramDraw := by
  unfold State.memWrite; split <;> simp
@[simp] theorem State.memWrite_inputs (s : State) (m v : Byte) : (s.memWrite m v).inputs = s.inputs := by
  unfold State.memWrite; split <;> simp

/-- A write through `m` where nothing is named does nothing (R62). -/
theorem State.memWrite_of_none {s : State} {m : Byte} (h : s.resolve m = none) (v : Byte) : s.memWrite m v = s := by
  simp [State.memWrite, h]

theorem State.memWrite_of_some {s : State} {m t : Byte} (h : s.resolve m = some t) (v : Byte) :
    s.memWrite m v = s.cellWrite t v := by
  simp [State.memWrite, h]

theorem State.memRead_of_none {s : State} {m : Byte} (h : s.resolve m = none) : s.memRead m = 0 := by
  simp [State.memRead, h]

theorem State.memRead_of_some {s : State} {m t : Byte} (h : s.resolve m = some t) : s.memRead m = s.cellRead t := by
  simp [State.memRead, h]

/-- A resolved cell is never an indirect register (R63). -/
theorem State.resolve_ne_indirect {s : State} {m t : Byte} (h : s.resolve m = some t) : t ≠ 0x00#8 ∧ t ≠ 0x02#8 := by
  have through : ∀ {p u : Byte}, throughPointer p = some u → u ≠ 0x00#8 ∧ u ≠ 0x02#8 := by
    intro p u hu
    unfold throughPointer at hu
    split at hu
    · cases hu
    · next hn => cases hu; exact not_or.1 hn
  unfold State.resolve at h
  split at h
  · exact through h
  · split at h
    · exact through h
    · next h0 h2 => cases h; exact ⟨h0, h2⟩

/-- Resolution looks at the two pointers only. -/
theorem State.resolve_congr {s u : State} (m : Byte) (h0 : u.mp0 = s.mp0) (h1 : u.mp1 = s.mp1) :
    u.resolve m = s.resolve m := by
  simp [State.resolve, h0, h1]

@[simp] theorem State.resolve_fetched (s : State) (m : Byte) : s.fetched.resolve m = s.resolve m := rfl
@[simp] theorem State.resolve_afterRead (s : State) (m n : Byte) : (s.afterRead n).resolve m = s.resolve m := rfl

/-- RAM, after a write to a data cell, holds the byte at the written address and is unchanged elsewhere. -/
theorem State.ramByte_cellWrite {s : State} {t v : Byte} (hw : Memory.wf s.ram = true) (a : Nat) (ha : 0x60 ≤ a) :
    (s.cellWrite t v).ramByte a = if a = t.toNat then v else s.ramByte a := by
  have rising := (Bool.and_eq_true _ _ ▸ hw : _ ∧ _).1
  simp only [State.ramByte, State.cellWrite_ram, State.cellWrite_ramDraw]
  by_cases hat : a = t.toNat
  · subst hat
    simp only [ha, if_true, Memory.find_set_same _ _ rising, Option.getD_some]
  · simp only [hat, if_false]
    split
    · rw [Memory.find_set_other _ _ hat]
    · rfl

/-- Elsewhere no canonical form is needed. -/
theorem State.ramByte_cellWrite_other (s : State) {t v : Byte} {a : Nat} (h : a ≠ t.toNat) :
    (s.cellWrite t v).ramByte a = s.ramByte a := by
  simp only [State.ramByte, State.cellWrite_ram, State.cellWrite_ramDraw]
  split
  · rw [Memory.find_set_other _ _ h]
  · rfl

/-- Every write through an operand keeps the canonical form of RAM. -/
theorem State.memWrite_wf {s : State} (m v : Byte) (h : Memory.wf s.ram = true) :
    Memory.wf (s.memWrite m v).ram = true := by
  unfold State.memWrite
  split
  · exact h
  · next t _ =>
    rw [State.cellWrite_ram]
    split
    · next ht => exact Memory.wf_set v h ht (by have := t.isLt; omega)
    · exact h

end Sys2Proof.Machine
end

