-- ==== Sys2Proof/Laws/Ops.lean ====
section
/-! SUPPORT. What each shared operation of the meanings can do, said once (Machine/Ops.lean), in the words of Safety.lean. -/

namespace Sys2Proof.Machine

/-! ### Frames are reflexive where an update leaves a field alone -/

theorem SameTimer.refl {w : Nat} (t : Timer w) : SameTimer t t := ⟨rfl, rfl, rfl, rfl, rfl, rfl, rfl⟩

/-- A timer is the same but for the blocking of its clock. -/
theorem SameTimer.blocked {w : Nat} (t : Timer w) (b : Bool) : SameTimer t { t with blocked := b } :=
  ⟨rfl, rfl, rfl, rfl, rfl, rfl, rfl⟩

/-! ### Writing a memory operand -/

/-- The state in which an instruction writes its result. -/
def State.beforeWrite (s : State) (m : Byte) (reads : Bool) : State :=
  if reads then s.fetched.afterRead m else s.fetched

theorem State.beforeWrite_resolve (s : State) (m : Byte) (reads : Bool) :
    (s.beforeWrite m reads).resolve m = s.resolve m := by cases reads <;> rfl

/-- Every field that the fetch or the read of the operand touches. -/
theorem State.beforeWrite_eq (s : State) (m : Byte) (reads : Bool) : s.beforeWrite m reads =
    { s with
      pc := s.pc + 1, cyc := 1, lowbuf0 := bufferAfter s m reads
      tmr0 := { s.tmr0 with blocked := reads && decide (s.resolve m = some 0x0C#8) }
      tmr1 := { s.tmr1 with blocked := reads && decide (s.resolve m = some 0x10#8) } } := by
  cases reads
  · simp only [bufferAfter, Bool.false_eq_true, false_and, if_false]; rfl
  · simp only [bufferAfter, true_and]; rfl

/-- What a write to TMRnC does to the pulse width phase. -/
theorem Timer.writeControl_phase {w : Nat} (t : Timer w) (v : Byte) :
    (t.writeControl v).phase = phaseAfterWrite (v.getLsbD 4) t.ton t.phase := by
  simp only [Timer.writeControl]
  cases v.getLsbD 4 <;> cases t.ton <;> rfl

/-- What a write of `v` to `[m]` does, from the state before the instruction. -/
theorem State.memWrite_stored {s : State} (m v : Byte) (reads : Bool) (hw : Memory.wf s.ram = true) :
    Stored s m v reads ((s.beforeWrite m reads).memWrite m v) := by
  cases h : s.resolve m with
  | none =>
    rw [State.memWrite_of_none (by rw [State.beforeWrite_resolve, h]), State.beforeWrite_eq]
    constructor <;> first
      | (simp [h]; done)
      | exact fun _ => rfl
      | exact fun _ _ => rfl
      | exact ⟨rfl, rfl, rfl, rfl, rfl⟩
      | exact ⟨rfl, rfl, rfl, rfl, rfl, rfl, rfl, rfl⟩
      | exact ⟨rfl, rfl, rfl, rfl, rfl, rfl, rfl, rfl, rfl, rfl⟩
  | some t =>
    rw [State.memWrite_of_some (by rw [State.beforeWrite_resolve, h])]
    have hwu : Memory.wf (s.beforeWrite m reads).ram = true := by rw [State.beforeWrite_eq]; exact hw
    constructor
    case ramWritten =>
      intro a ha h60
      obtain rfl : t = a := Option.some.inj (h.symm.trans ha)
      rw [State.ramByte_cellWrite hwu _ h60, if_pos rfl]
    case ramOther =>
      intro a ha
      rw [State.ramByte_cellWrite_other _ (ha t h), State.beforeWrite_eq]; rfl
    all_goals rw [State.cellWrite_eq, State.beforeWrite_eq]
    case stack => exact ⟨rfl, rfl, rfl, rfl, rfl⟩
    case watchdog => exact ⟨rfl, rfl, rfl, rfl, rfl⟩
    case world => exact ⟨rfl, rfl, rfl, rfl, rfl, rfl, rfl, rfl, rfl, rfl⟩
    all_goals simp only [h, Option.some.injEq]
    case cnt0 | cnt1 =>
      by_cases h0 : s.tmr0.ton <;> by_cases h5 : s.tmr1.ton <;>
      by_cases h1 : t = 0x0C#8 <;> by_cases h2 : t = 0x0E#8 <;> by_cases h3 : t = 0x10#8 <;> by_cases h4 : t = 0x11#8 <;>
        simp_all [Timer.writePreload, Timer.writeControl]
    case phase0 | phase1 =>
      by_cases h1 : t = 0x0C#8 <;> by_cases h2 : t = 0x0E#8 <;> by_cases h3 : t = 0x10#8 <;> by_cases h4 : t = 0x11#8 <;>
        simp_all [Timer.writePreload, Timer.writeControl_phase]
    case pre0 | pre1 | blocked0 | blocked1 | tm1_0 | tm0_0 | ton0 | te0 | tm1_1 | tm0_1 | ton1 | te1 =>
      by_cases h1 : t = 0x0C#8 <;> by_cases h2 : t = 0x0E#8 <;> by_cases h3 : t = 0x10#8 <;> by_cases h4 : t = 0x11#8 <;>
        simp_all [Timer.writePreload, Timer.writeControl]

/-! ### Where a result goes -/

theorem State.memWrite_status {s : State} {m v : Byte} (k : State → Bool) (n : Nat) (old : Bool)
    (hk : ∀ t : Byte, k (s.cellWrite t v) = if t = 0x0A#8 then v.getLsbD n else old) (h0 : k s = old) :
    k (s.memWrite m v) = if s.resolve m = some 0x0A#8 then v.getLsbD n else old := by
  cases h : s.resolve m with
  | none => rw [State.memWrite_of_none h, if_neg (by simp), h0]
  | some t => rw [State.memWrite_of_some h, hk]; simp

/-- The four flags after a write to `[m]`, before the instruction's own rule. -/
theorem State.memWrite_flags (s : State) (m v : Byte) :
    (s.memWrite m v).flagC = (if s.resolve m = some 0x0A#8 then v.getLsbD 0 else s.flagC) ∧
    (s.memWrite m v).flagAC = (if s.resolve m = some 0x0A#8 then v.getLsbD 1 else s.flagAC) ∧
    (s.memWrite m v).flagZ = (if s.resolve m = some 0x0A#8 then v.getLsbD 2 else s.flagZ) ∧
    (s.memWrite m v).flagOV = (if s.resolve m = some 0x0A#8 then v.getLsbD 3 else s.flagOV) :=
  ⟨State.memWrite_status (·.flagC) 0 _ (fun t => State.cellWrite_flagC s t v) rfl,
    State.memWrite_status (·.flagAC) 1 _ (fun t => State.cellWrite_flagAC s t v) rfl,
    State.memWrite_status (·.flagZ) 2 _ (fun t => State.cellWrite_flagZ s t v) rfl,
    State.memWrite_status (·.flagOV) 3 _ (fun t => State.cellWrite_flagOV s t v) rfl⟩

/-- The cycles after a write to `[m]`. -/
theorem State.memWrite_cyc (s : State) (m v : Byte) : (s.memWrite m v).cyc = cyclesOfStore s m s.cyc := by
  unfold cyclesOfStore
  cases h : s.resolve m with
  | none => rw [State.memWrite_of_none h]; simp
  | some t => rw [State.memWrite_of_some h, State.cellWrite_cyc]; simp

/-- Without a rule of the instruction's own, a flag is the data bit or what it was. -/
theorem flagAfter_noRule (s : State) (m v : Byte) (n : Nat) (old : Bool) :
    FlagAfter (statusData s m v n) none old (if s.resolve m = some 0x0A#8 then v.getLsbD n else old) := by
  unfold statusData
  by_cases h : s.resolve m = some 0x0A#8
  · rw [if_pos h, if_pos h]; rfl
  · rw [if_neg h, if_neg h]; rfl

/-- An instruction that writes `[m]` and no flag by a rule of its own. -/
theorem State.memWrite_storesTo {s : State} (m v : Byte) (reads : Bool) (hw : Memory.wf s.ram = true) :
    StoresTo s m v reads none none none none ((s.beforeWrite m reads).memWrite m v) := by
  obtain ⟨hc, hac, hz, hov⟩ := State.memWrite_flags (s.beforeWrite m reads) m v
  rw [State.beforeWrite_resolve] at hc hac hz hov
  have e := State.beforeWrite_eq s m reads
  refine ⟨State.memWrite_stored m v reads hw, ⟨?_, ?_, ?_, ?_⟩, ?_, ?_⟩
  · rw [hc, e]; exact flagAfter_noRule s m v 0 s.flagC
  · rw [hac, e]; exact flagAfter_noRule s m v 1 s.flagAC
  · rw [hz, e]; exact flagAfter_noRule s m v 2 s.flagZ
  · rw [hov, e]; exact flagAfter_noRule s m v 3 s.flagOV
  · rw [State.memWrite_cyc, e]; rfl
  · rw [State.memWrite_tblh, e]

/-- `Stored` does not speak of the four flags nor of the number of the next free value. -/
theorem Stored.of_flags {s t u : State} {m v : Byte} {reads : Bool} (h : Stored s m v reads t)
    (hu : u = { t with
      flagC := u.flagC, flagAC := u.flagAC, flagZ := u.flagZ, flagOV := u.flagOV, draws := u.draws }) :
    Stored s m v reads u := by
  rw [hu]
  obtain ⟨h1, h2, h3, h4, h5, h6, h7, h8, h9, h10, h11, h12, h13, h14, h15, h16, h17, h18, h19, h20, h21, h22, h23, h24,
    h25, h26, h27, h28, h29, h30, h31, h32, h33, h34, h35, h36, h37, h38, h39, h40, ⟨k1, k2, k3, k4, k5⟩,
    ⟨w1, w2, w3, w4, w5⟩, ⟨o1, o2, o3, o4, o5, o6, o7, o8, o9, o10⟩⟩ := h
  exact ⟨h1, h2, h3, h4, h5, h6, h7, h8, h9, h10, h11, h12, h13, h14, h15, h16, h17, h18, h19, h20, h21, h22, h23, h24,
    h25, h26, h27, h28, h29, h30, h31, h32, h33, h34, h35, h36, h37, h38, h39, h40, ⟨k1, k2, k3, k4, k5⟩,
    ⟨w1, w2, w3, w4, w5⟩, ⟨o1, o2, o3, o4, o5, o6, o7, o8, o9, o10⟩⟩

/-- One flag of an instruction with STATUS as destination is the data bit or the result of the rule (10_state.md R38). -/
theorem flagOrData_flagAfter (draw which : Nat) (data old : Bool) (rule : Option Bool) :
    FlagAfter (some data) rule old (flagOrData draw which data rule) := by
  cases rule with
  | none => rfl
  | some r =>
    by_cases h : Config.statusTakesData draw which
    · exact .inl (if_pos h)
    · exact .inr (if_neg h)

/-- An instruction whose result with its flags goes to `[m]`. -/
theorem State.toMem_storesTo {s : State} (m : Byte) (r : AluResult) (reads : Bool) (hw : Memory.wf s.ram = true) :
    StoresTo s m r.value reads r.flags.c r.flags.ac r.flags.z r.flags.ov ((s.beforeWrite m reads).toMem m r) := by
  obtain ⟨store, status, cyc, tblh⟩ := State.memWrite_storesTo m r.value reads hw
  unfold State.toMem
  split
  · next h =>
    rw [State.beforeWrite_resolve] at h
    have one (draw which n : Nat) (rule : Option Bool) (old d : Bool)
        (hs : FlagAfter (statusData s m r.value n) none old d) :
        FlagAfter (statusData s m r.value n) rule old (flagOrData draw which d rule) := by
      unfold statusData at hs ⊢
      rw [if_pos h.1] at hs ⊢
      obtain rfl : d = _ := hs
      exact flagOrData_flagAfter draw which _ old rule
    exact ⟨store.of_flags rfl,
      ⟨one _ 0 _ _ _ _ status.c, one _ 1 _ _ _ _ status.ac, one _ 2 _ _ _ _ status.z, one _ 3 _ _ _ _ status.ov⟩, cyc, tblh⟩
  · next h =>
    rw [State.beforeWrite_resolve] at h
    have key : s.resolve m = some 0x0A#8 → r.flags = .nothing := fun e => by
      by_contra hn; exact h ⟨e, hn⟩
    have one (k : State → Bool) (f : Option Bool) (n : Nat) (old : Bool)
        (hf : r.flags = .nothing → f = none)
        (hs : FlagAfter (statusData s m r.value n) none old (k ((s.beforeWrite m reads).memWrite m r.value))) :
        FlagAfter (statusData s m r.value n) f old (f.getD (k ((s.beforeWrite m reads).memWrite m r.value))) := by
      by_cases e : s.resolve m = some 0x0A#8
      · rw [hf (key e)]; exact hs
      · simp only [statusData, e, if_false] at hs ⊢
        cases f with
        | none => exact hs
        | some b => rfl
    exact ⟨store.of_flags rfl,
      ⟨one (·.flagC) _ 0 _ (fun e => by rw [e]; rfl) status.c, one (·.flagAC) _ 1 _ (fun e => by rw [e]; rfl) status.ac,
        one (·.flagZ) _ 2 _ (fun e => by rw [e]; rfl) status.z, one (·.flagOV) _ 3 _ (fun e => by rw [e]; rfl) status.ov⟩,
      cyc, tblh⟩

/-- The read-modify-write instructions (20_memory.md R65). -/
theorem State.memToMem_storesTo {s : State} (m : Byte) (op : Byte → Byte → AluResult) (hw : Memory.wf s.ram = true) :
    StoresTo s m (op s.acc (s.fetched.memRead m)).value true (op s.acc (s.fetched.memRead m)).flags.c
      (op s.acc (s.fetched.memRead m)).flags.ac (op s.acc (s.fetched.memRead m)).flags.z
      (op s.acc (s.fetched.memRead m)).flags.ov (s.memToMem m op) :=
  State.toMem_storesTo m _ true hw

/-- The instructions that write `[m]` without reading it. -/
theorem State.store_storesTo {s : State} (m v : Byte) (hw : Memory.wf s.ram = true) :
    StoresTo s m v false none none none none (s.fetched.memWrite m v) :=
  State.memWrite_storesTo m v false hw

/-- Reading `[m]` and putting something in ACC and the flags changes nothing else. -/
theorem State.afterRead_frame (s : State) (m : Byte) (r : AluResult) :
    AccFrame s ((s.fetched.afterRead m).toAcc r) ∧ ReadEffect s m ((s.fetched.afterRead m).toAcc r) ∧
      GoesOn s ((s.fetched.afterRead m).toAcc r) := by
  have e : s.fetched.afterRead m = s.beforeWrite m true := rfl
  rw [e, State.beforeWrite_eq]
  refine ⟨⟨⟨rfl, rfl, rfl, rfl, rfl⟩, ⟨rfl, rfl, rfl, rfl, rfl⟩, rfl,
    ⟨⟨rfl, rfl, rfl, rfl⟩, ⟨rfl, rfl, rfl, rfl, rfl, rfl, rfl⟩, SameTimer.blocked _ _, SameTimer.blocked _ _,
      ⟨rfl, rfl, rfl, rfl, rfl, rfl, rfl, rfl⟩, ⟨rfl, rfl, rfl, rfl, rfl, rfl, rfl, rfl, rfl, rfl⟩, fun _ => rfl, rfl⟩⟩,
    ⟨rfl, ?_, ?_⟩, ⟨rfl, rfl⟩⟩
  · simp
  · simp

/-- The instructions whose result from `[m]` goes to ACC. -/
theorem State.memToAcc_frame (s : State) (m : Byte) (op : Byte → Byte → AluResult) :
    AccFrame s (s.memToAcc m op) ∧ ReadEffect s m (s.memToAcc m op) ∧ GoesOn s (s.memToAcc m op) :=
  State.afterRead_frame s m _

/-- The instructions whose result from an immediate goes to ACC. -/
theorem State.immToAcc_frame (s : State) (x : Byte) (op : Byte → Byte → AluResult) :
    AccFrame s (s.immToAcc x op) ∧ NoReadEffect s (s.immToAcc x op) ∧ GoesOn s (s.immToAcc x op) :=
  ⟨⟨⟨rfl, rfl, rfl, rfl, rfl⟩, ⟨rfl, rfl, rfl, rfl, rfl⟩, rfl,
    ⟨⟨rfl, rfl, rfl, rfl⟩, ⟨rfl, rfl, rfl, rfl, rfl, rfl, rfl⟩, SameTimer.blocked _ _, SameTimer.blocked _ _,
      ⟨rfl, rfl, rfl, rfl, rfl, rfl, rfl, rfl⟩, ⟨rfl, rfl, rfl, rfl, rfl, rfl, rfl, rfl, rfl, rfl⟩, fun _ => rfl, rfl⟩⟩,
    ⟨rfl, rfl, rfl⟩, ⟨rfl, rfl⟩⟩

/-! ### Table reads -/

/-- A table read stores the low byte, and TBLH takes the other seven bits (45_table_misc.md R171). -/
theorem State.tableRead_stores {s : State} (m : Byte) (a : Addr) (hw : Memory.wf s.ram = true) :
    Stored s m ((s.progRead a).extractLsb' 0 8) false (s.tableRead m a) ∧
      StatusWrite s m ((s.progRead a).extractLsb' 0 8) none none none none (s.tableRead m a) ∧
      (s.tableRead m a).cyc = cyclesOfStore s m 2 ∧ (s.tableRead m a).tblh = (s.progRead a).extractLsb' 8 7 := by
  have same : ∀ k : Nat, ({ s.fetched with cyc := k }).memWrite m ((s.progRead a).extractLsb' 0 8) =
      { s.fetched.memWrite m ((s.progRead a).extractLsb' 0 8) with
        cyc := (({ s.fetched with cyc := k }).memWrite m ((s.progRead a).extractLsb' 0 8)).cyc } := by
    intro k
    have e : ({ s.fetched with cyc := k }).resolve m = s.fetched.resolve m := rfl
    unfold State.memWrite
    rw [e]
    cases s.fetched.resolve m with
    | none => rfl
    | some t => simp only; rw [State.cellWrite_eq, State.cellWrite_eq]
  obtain ⟨store, status, -, -⟩ := State.store_storesTo (s := s) m ((s.progRead a).extractLsb' 0 8) hw
  have hc : (({ s.fetched with cyc := 2 }).memWrite m ((s.progRead a).extractLsb' 0 8)).cyc = cyclesOfStore s m 2 := by
    rw [State.memWrite_cyc]; rfl
  unfold State.tableRead
  rw [same 2]
  refine ⟨?_, ⟨status.c, status.ac, status.z, status.ov⟩, hc, rfl⟩
  obtain ⟨h1, h2, h3, h4, h5, h6, h7, h8, h9, h10, h11, h12, h13, h14, h15, h16, h17, h18, h19, h20, h21, h22, h23, h24,
    h25, h26, h27, h28, h29, h30, h31, h32, h33, h34, h35, h36, h37, h38, h39, h40, ⟨k1, k2, k3, k4, k5⟩,
    ⟨w1, w2, w3, w4, w5⟩, ⟨o1, o2, o3, o4, o5, o6, o7, o8, o9, o10⟩⟩ := store
  exact ⟨h1, h2, h3, h4, h5, h6, h7, h8, h9, h10, h11, h12, h13, h14, h15, h16, h17, h18, h19, h20, h21, h22, h23, h24,
    h25, h26, h27, h28, h29, h30, h31, h32, h33, h34, h35, h36, h37, h38, h39, h40, ⟨k1, k2, k3, k4, k5⟩,
    ⟨w1, w2, w3, w4, w5⟩, ⟨o1, o2, o3, o4, o5, o6, o7, o8, o9, o10⟩⟩

/-! ### The stack -/

/-- Everything `Push(v)` can do (10_state.md R26). -/
theorem State.push_eq (s : State) (v : Addr) : s.push v = { s with
    stk0 := if s.sp = 4 then s.stk1 else if s.sp = 0 then v else s.stk0
    stk1 := if s.sp = 4 then s.stk2 else if s.sp = 1 then v else s.stk1
    stk2 := if s.sp = 4 then s.stk3 else if s.sp = 2 then v else s.stk2
    stk3 := if s.sp = 4 then v else if s.sp = 3 then v else s.stk3
    sp := if s.sp = 4 then 4 else s.sp + 1 } := by
  unfold State.push
  split <;> next h => simp [h]

/-- There is an address to return to exactly when the stack is not empty (10_state.md R27). -/
theorem State.top_isSome (s : State) : s.top.isSome = decide (s.sp ≠ 0) := by
  unfold State.top
  split <;> next h => simp [h]

/-- A return from an empty stack stops. -/
theorem State.returnWith_empty {s : State} (also : State → State) (h : s.sp = 0) :
    s.returnWith also = .fault .stackUnderflow := by
  simp [State.returnWith, State.top, h]

/-- A return from a stack that is not empty (44_branch.md R166). -/
theorem State.returnWith_next {s : State} (also : State → State) (h : s.sp ≠ 0) :
    ∃ a, s.top = some a ∧
      s.returnWith also = .next (also { s.fetched with sp := s.sp - 1, pc := a, cyc := 2 }) := by
  obtain ⟨a, ha⟩ := Option.isSome_iff_exists.1 ((State.top_isSome s).trans (decide_eq_true h))
  refine ⟨a, ha, ?_⟩
  simp only [State.returnWith, ha]
  simp only [State.dropTop, h, if_false]
  rfl

/-- Interrupt entry leaves everything but the stack, the program counter, EMI and one request flag (60_exceptions.md
R190). -/
theorem State.interruptEntry_eq (s : State) (k : Source) : s.interruptEntry k = { s.push s.pc with
    eif := s.eif && decide (k ≠ .external), t0f := s.t0f && decide (k ≠ .timer0), t1f := s.t1f && decide (k ≠ .timer1)
    emi := false, pc := k.vector, cyc := Config.intEntryCycles
    tmr0 := { s.tmr0 with blocked := false }, tmr1 := { s.tmr1 with blocked := false } } := rfl

end Sys2Proof.Machine
end

