-- ==== Sys2Proof/Laws/Devices.lean ====
section
/-! SUPPORT. What the devices can do to the state while time passes, said once (Machine/Devices.lean). -/

namespace Sys2Proof.Machine

/-! ### Timers -/

/-- What counting, edges and time can do to a timer: its control register stays but for TON, which can only go off, with the
phase back at `idle`; the preload register stays; and no clock becomes blocked. -/
structure TimerMoved {w : Nat} (s t : Timer w) : Prop where
  tm1 : t.tm1 = s.tm1
  tm0 : t.tm0 = s.tm0
  te : t.te = s.te
  pre : t.pre = s.pre
  ton : t.ton = true → s.ton = true
  idle : (s.ton = false → s.phase = .idle) → t.ton = false → t.phase = .idle
  blocked : t.blocked = true → s.blocked = true

theorem TimerMoved.refl {w : Nat} (t : Timer w) : TimerMoved t t := ⟨rfl, rfl, rfl, rfl, id, fun h => h, id⟩

theorem TimerMoved.trans {w : Nat} {r s t : Timer w} (h : TimerMoved r s) (g : TimerMoved s t) : TimerMoved r t :=
  ⟨g.tm1.trans h.tm1, g.tm0.trans h.tm0, g.te.trans h.te, g.pre.trans h.pre, fun e => h.ton (g.ton e),
    fun i => g.idle (h.idle i), fun e => h.blocked (g.blocked e)⟩

/-- A timer that was in no unused mode is in none afterwards. -/
theorem TimerMoved.onInUnusedMode {w : Nat} {s t : Timer w} (h : TimerMoved s t) (g : s.onInUnusedMode = false) :
    t.onInUnusedMode = false := by
  have e : t.mode = s.mode := by unfold Timer.mode; rw [h.tm1, h.tm0]
  cases ht : t.ton with
  | false => simp [Timer.onInUnusedMode, ht]
  | true => simpa [Timer.onInUnusedMode, ht, e, h.ton ht] using g

theorem Timer.passCycles_moved {w : Nat} (run : Bool) (c : Nat) (t : Timer w) : TimerMoved t (t.passCycles run c).1 := by
  unfold Timer.passCycles
  split
  · exact ⟨rfl, rfl, rfl, rfl, id, fun h => h, fun h => nomatch h⟩
  · exact .refl t

theorem Timer.countEvent_moved {w : Nat} (t : Timer w) : TimerMoved t t.countEvent.1 :=
  ⟨rfl, rfl, rfl, rfl, id, fun h => h, fun h => nomatch h⟩

theorem Timer.inputEdge_moved {w : Nat} (run pulse old now : Bool) (t : Timer w) :
    TimerMoved t (t.inputEdge run pulse old now).1 := by
  unfold Timer.inputEdge
  split
  · split
    · split
      · exact t.countEvent_moved
      · exact .refl t
    · split
      · split
        · next h _ _ hp _ =>
          exact ⟨rfl, rfl, rfl, rfl, id, fun i e => absurd (i e) (by rw [hp]; exact fun h => nomatch h), id⟩
        · exact .refl t
      · split
        · exact ⟨rfl, rfl, rfl, rfl, (fun h => nomatch h), fun _ _ => rfl, id⟩
        · exact .refl t
      · exact .refl t
    · exact .refl t
  · exact .refl t

/-- A timer that is off does not move. -/
theorem Timer.inputEdge_off {w : Nat} (pulse old now : Bool) (t : Timer w) : t.inputEdge false pulse old now = (t, false) := rfl

theorem Timer.passCycles_off {w : Nat} (c : Nat) (t : Timer w) : t.passCycles false c = (t, false) := rfl

/-- Without an edge nothing happens at a timer's input. -/
theorem Timer.inputEdge_level {w : Nat} (run pulse level : Bool) (t : Timer w) :
    t.inputEdge run pulse level level = (t, false) := by
  simp [Timer.inputEdge]

/-- Counting `a` times and then `b` times is counting `a + b` times. -/
theorem countUp_add {w : Nat} (pre : BitVec w) (a b : Nat) (c : BitVec w) :
    countUp pre (a + b) c = ((countUp pre b (countUp pre a c).1).1,
      (countUp pre a c).2 || (countUp pre b (countUp pre a c).1).2) := by
  induction a generalizing c with
  | zero => simp [countUp]
  | succ a ih =>
    rw [show a + 1 + b = (a + b) + 1 by omega]
    simp only [countUp]
    split <;> simp [ih]

/-- An edge to `level` is counted among the edges to `level`. -/
theorem edgesTo_edge {old level : Bool} (rest : List Bool) (h : old ≠ level) :
    edgesTo level old (level :: rest) = edgesTo level level rest + 1 := by
  simp [edgesTo, h, Nat.add_comm]

/-- A level without an edge to `now` adds nothing. -/
theorem edgesTo_noEdge {now old level : Bool} (rest : List Bool) (h : ¬ (old ≠ level ∧ level = now)) :
    edgesTo now old (level :: rest) = edgesTo now level rest := by
  have : decide (old ≠ now ∧ level = now) = false := by cases old <;> cases now <;> cases level <;> simp_all
  simp only [edgesTo, this]
  exact Nat.zero_add _

/-! ### Pads -/

/-- What pads and time can do to the state: the timers, the request flags, the levels on the pads and those remembered,
the time, and nothing else. -/
structure DevicesMoved (s t : State) : Prop where
  same : t = { s with
    tmr0 := t.tmr0, tmr1 := t.tmr1, eif := t.eif, t0f := t.t0f, t1f := t.t1f, pads := t.pads
    lastInt := t.lastInt, lastPa := t.lastPa, lastTmr1 := t.lastTmr1, elapsed := t.elapsed }
  timer0 : TimerMoved s.tmr0 t.tmr0
  timer1 : TimerMoved s.tmr1 t.tmr1
  eif : s.eif = true → t.eif = true
  t0f : s.t0f = true → t.t0f = true
  t1f : s.t1f = true → t.t1f = true

theorem DevicesMoved.refl (s : State) : DevicesMoved s s := ⟨rfl, .refl _, .refl _, id, id, id⟩

theorem DevicesMoved.trans {r s t : State} (h : DevicesMoved r s) (g : DevicesMoved s t) : DevicesMoved r t :=
  ⟨by rw [g.same, h.same], h.timer0.trans g.timer0, h.timer1.trans g.timer1, fun e => g.eif (h.eif e),
    fun e => g.t0f (h.t0f e), fun e => g.t1f (h.t1f e)⟩

theorem State.samplePads_moved (s : State) (run0 run1 pulse : Bool) (p : Pads) :
    DevicesMoved s (s.samplePads run0 run1 pulse p) :=
  ⟨rfl, Timer.inputEdge_moved _ _ _ _ _, Timer.inputEdge_moved _ _ _ _ _, fun h => by simp [State.samplePads, h],
    fun h => by simp [State.samplePads, h], fun h => by simp [State.samplePads, h]⟩

theorem State.sampleAll_moved (run0 run1 pulse : Bool) (l : List Pads) (s : State) :
    DevicesMoved s (State.sampleAll run0 run1 pulse l s) := by
  induction l generalizing s with
  | nil => exact .refl s
  | cons p rest ih => exact (s.samplePads_moved run0 run1 pulse p).trans (ih _)

/-- Pads take no time of their own. -/
@[simp] theorem State.sampleAll_elapsed (run0 run1 pulse : Bool) (l : List Pads) (s : State) :
    (State.sampleAll run0 run1 pulse l s).elapsed = s.elapsed := by
  induction l generalizing s with
  | nil => rfl
  | cons p rest ih => exact ih (s.samplePads run0 run1 pulse p)

theorem State.sleepThrough_moved (l : List Pads) (s : State) : DevicesMoved s (State.sleepThrough l s).1 := by
  induction l generalizing s with
  | nil => exact .refl s
  | cons p rest ih => exact (s.samplePads_moved _ _ _ p).trans (ih _)

theorem State.countCycles_moved (s : State) (run0 run1 : Bool) : DevicesMoved s (s.countCycles run0 run1) :=
  ⟨rfl, Timer.passCycles_moved _ _ _, Timer.passCycles_moved _ _ _, fun h => h,
    fun h => by simp [State.countCycles, h], fun h => by simp [State.countCycles, h]⟩

theorem State.unblocked_moved (s : State) : DevicesMoved s s.unblocked :=
  ⟨rfl, ⟨rfl, rfl, rfl, rfl, id, fun h => h, fun h => nomatch h⟩, ⟨rfl, rfl, rfl, rfl, id, fun h => h, fun h => nomatch h⟩,
    id, id, id⟩

/-- The pads after a power cycle or a RES reset, and nothing else, are new. -/
@[simp] theorem State.padsBecome_pads (s : State) (l : List Pads) : (s.padsBecome l).pads = l.getLastD s.pads := rfl

theorem State.padsBecome_eq (s : State) (l : List Pads) : s.padsBecome l = { s with pads := l.getLastD s.pads } := rfl

/-- The state of a step's end before the watchdog is looked at. -/
def State.timePassed (s : State) (inp : Input) (run0 run1 : Bool) : State :=
  (State.sampleAll run0 run1 true (s.pads :: inp.runPads) (s.countCycles run0 run1)).unblocked

theorem State.timePassed_moved (s : State) (inp : Input) (run0 run1 : Bool) :
    DevicesMoved s (s.timePassed inp run0 run1) :=
  ((s.countCycles_moved run0 run1).trans (State.sampleAll_moved _ _ _ _ _)).trans (State.unblocked_moved _)

/-! ### The end of a step -/

/-- Everything the watchdog can do at the end of a step (60_exceptions.md R214, R215). -/
theorem State.runWatchdog_cases (s : State) (osc : Nat) :
    (s.runWatchdog osc = s ∧ s.wdtDisabled = true) ∨
    (s.runWatchdog osc = s.watchdogReset ∧ s.wdtDisabled = false) ∨
    ∃ n, s.runWatchdog osc = { s with wdt := n } ∧ s.wdtDisabled = false ∧ n < s.wdtLimit := by
  unfold State.runWatchdog
  by_cases h : s.wdtDisabled = true
  · exact .inl ⟨if_pos h, h⟩
  · rw [if_neg h]
    by_cases hn : s.wdtLimit ≤ s.wdt + (if s.wdtOnInstructionClock then s.cyc else osc)
    · exact .inr (.inl ⟨if_pos hn, by simpa using h⟩)
    · exact .inr (.inr ⟨_, if_neg hn, by simpa using h, Nat.lt_of_not_le hn⟩)

/-- Everything the end of a step can do (60_exceptions.md R201 step 6, R221). -/
theorem State.finish_next {s t : State} {inp : Input} {before : State} (h : s.finish inp before = .next t) :
    s.tmr0.onInUnusedMode = false ∧ s.tmr1.onInUnusedMode = false ∧
      t = (s.timePassed inp (before.tmr0.ton && s.tmr0.ton) (before.tmr1.ton && s.tmr1.ton)).runWatchdog inp.runOsc := by
  unfold State.finish at h
  split at h
  · exact nomatch h
  · next hn =>
    simp only [Bool.or_eq_true, not_or, Bool.not_eq_true] at hn
    exact ⟨hn.1, hn.2, (Host.Outcome.next.inj h).symm⟩

end Sys2Proof.Machine
end

