-- ==== Sys2Proof/Laws/PerInstr.lean ====
section
/-! SUPPORT. The statements made instruction by instruction: the words of each format lie in its own range. -/

namespace Sys2Proof.Laws

/-- A format M or I word as a number. -/
theorem wordMI_toNat (op7 : BitVec 7) (b : Byte) : (wordMI op7 b).toNat = op7.toNat * 256 + b.toNat := by
  rw [wordMI, BitVec.toNat_append, Nat.shiftLeft_eq, Nat.mul_comm _ (2 ^ 8), ← Nat.two_pow_add_eq_or_of_lt b.isLt]

/-- A format B word as a number. -/
theorem wordB_toNat (bop : BitVec 2) (i : Nat) (m : Byte) :
    (wordB bop i m).toNat = 0x4000 + bop.toNat * 0x800 + i % 8 * 256 + m.toNat := by
  have hb := bop.isLt
  have hi : (BitVec.ofNat 3 i).toNat = i % 8 := by simp
  rw [wordB, BitVec.toNat_append, BitVec.toNat_append, BitVec.toNat_append, Nat.shiftLeft_eq, Nat.shiftLeft_eq,
    Nat.shiftLeft_eq, Nat.mul_comm _ (2 ^ 8), ← Nat.two_pow_add_eq_or_of_lt m.isLt, Nat.mul_comm _ (2 ^ 3),
    ← Nat.two_pow_add_eq_or_of_lt (BitVec.ofNat 3 i).isLt, Nat.mul_comm _ (2 ^ 2), ← Nat.two_pow_add_eq_or_of_lt hb, hi]
  have : (0b10#2).toNat = 2 := rfl
  omega

/-- A format J word as a number. -/
theorem wordJ_toNat (c : BitVec 1) (addr : Addr) : (wordJ c addr).toNat = 0x6000 + c.toNat * 0x1000 + addr.toNat := by
  have hc := c.isLt
  rw [wordJ, BitVec.toNat_append, BitVec.toNat_append, Nat.shiftLeft_eq, Nat.shiftLeft_eq, Nat.mul_comm _ (2 ^ 12),
    ← Nat.two_pow_add_eq_or_of_lt addr.isLt, Nat.mul_comm _ (2 ^ 1), ← Nat.two_pow_add_eq_or_of_lt hc]
  have : (0b11#2).toNat = 3 := rfl
  omega

namespace EncodedFormat

/-- 30_encoding.md R86 to R91 (SPEC-ENC): the word of an instruction lies in the range of the instruction's format. -/
def Statement (i : Instr) : Prop :=
  match i.format with
  | .none => (encode i).toNat ≤ 0x0006
  | .memory => 0x0100 ≤ (encode i).toNat ∧ (encode i).toNat ≤ 0x2BFF
  | .immediate => 0x3000 ≤ (encode i).toNat ∧ (encode i).toNat ≤ 0x36FF
  | .bit => 0x4000 ≤ (encode i).toNat ∧ (encode i).toNat ≤ 0x5FFF
  | .jump => 0x6000 ≤ (encode i).toNat

/-- A format M word lies in its range. -/
theorem memory_range (op7 : BitVec 7) (m : Byte) (h : 1 ≤ op7.toNat ∧ op7.toNat ≤ 0x2B) :
    0x0100 ≤ (wordMI op7 m).toNat ∧ (wordMI op7 m).toNat ≤ 0x2BFF := by
  rw [wordMI_toNat]; omega

/-- A format I word lies in its range. -/
theorem immediate_range (op7 : BitVec 7) (x : Byte) (h : 0x30 ≤ op7.toNat ∧ op7.toNat ≤ 0x36) :
    0x3000 ≤ (wordMI op7 x).toNat ∧ (wordMI op7 x).toNat ≤ 0x36FF := by
  rw [wordMI_toNat]; omega

/-- A format B word lies in its range. -/
theorem bit_range (bop : BitVec 2) (i : Nat) (m : Byte) :
    0x4000 ≤ (wordB bop i m).toNat ∧ (wordB bop i m).toNat ≤ 0x5FFF := by
  rw [wordB_toNat]; omega

/-- A format J word lies in its range. -/
theorem jump_range (c : BitVec 1) (addr : Addr) : 0x6000 ≤ (wordJ c addr).toNat := by
  rw [wordJ_toNat]; omega

theorem addAM (m : Byte) : Statement (.addAM m) := memory_range _ m (by decide)
theorem addmAM (m : Byte) : Statement (.addmAM m) := memory_range _ m (by decide)
theorem addAX (x : Byte) : Statement (.addAX x) := immediate_range _ x (by decide)
theorem adcAM (m : Byte) : Statement (.adcAM m) := memory_range _ m (by decide)
theorem adcmAM (m : Byte) : Statement (.adcmAM m) := memory_range _ m (by decide)
theorem subAX (x : Byte) : Statement (.subAX x) := immediate_range _ x (by decide)
theorem subAM (m : Byte) : Statement (.subAM m) := memory_range _ m (by decide)
theorem submAM (m : Byte) : Statement (.submAM m) := memory_range _ m (by decide)
theorem sbcAM (m : Byte) : Statement (.sbcAM m) := memory_range _ m (by decide)
theorem sbcmAM (m : Byte) : Statement (.sbcmAM m) := memory_range _ m (by decide)
theorem daaM (m : Byte) : Statement (.daaM m) := memory_range _ m (by decide)
theorem andAM (m : Byte) : Statement (.andAM m) := memory_range _ m (by decide)
theorem orAM (m : Byte) : Statement (.orAM m) := memory_range _ m (by decide)
theorem xorAM (m : Byte) : Statement (.xorAM m) := memory_range _ m (by decide)
theorem andmAM (m : Byte) : Statement (.andmAM m) := memory_range _ m (by decide)
theorem ormAM (m : Byte) : Statement (.ormAM m) := memory_range _ m (by decide)
theorem xormAM (m : Byte) : Statement (.xormAM m) := memory_range _ m (by decide)
theorem andAX (x : Byte) : Statement (.andAX x) := immediate_range _ x (by decide)
theorem orAX (x : Byte) : Statement (.orAX x) := immediate_range _ x (by decide)
theorem xorAX (x : Byte) : Statement (.xorAX x) := immediate_range _ x (by decide)
theorem cplM (m : Byte) : Statement (.cplM m) := memory_range _ m (by decide)
theorem cplaM (m : Byte) : Statement (.cplaM m) := memory_range _ m (by decide)
theorem incaM (m : Byte) : Statement (.incaM m) := memory_range _ m (by decide)
theorem incM (m : Byte) : Statement (.incM m) := memory_range _ m (by decide)
theorem decaM (m : Byte) : Statement (.decaM m) := memory_range _ m (by decide)
theorem decM (m : Byte) : Statement (.decM m) := memory_range _ m (by decide)
theorem rraM (m : Byte) : Statement (.rraM m) := memory_range _ m (by decide)
theorem rrM (m : Byte) : Statement (.rrM m) := memory_range _ m (by decide)
theorem rrcaM (m : Byte) : Statement (.rrcaM m) := memory_range _ m (by decide)
theorem rrcM (m : Byte) : Statement (.rrcM m) := memory_range _ m (by decide)
theorem rlaM (m : Byte) : Statement (.rlaM m) := memory_range _ m (by decide)
theorem rlM (m : Byte) : Statement (.rlM m) := memory_range _ m (by decide)
theorem rlcaM (m : Byte) : Statement (.rlcaM m) := memory_range _ m (by decide)
theorem rlcM (m : Byte) : Statement (.rlcM m) := memory_range _ m (by decide)
theorem movAM (m : Byte) : Statement (.movAM m) := memory_range _ m (by decide)
theorem movMA (m : Byte) : Statement (.movMA m) := memory_range _ m (by decide)
theorem movAX (x : Byte) : Statement (.movAX x) := immediate_range _ x (by decide)
theorem clrMI (m : Byte) (i : Nat) : Statement (.clrMI m i) := bit_range _ i m
theorem setMI (m : Byte) (i : Nat) : Statement (.setMI m i) := bit_range _ i m
theorem jmp (addr : Addr) : Statement (.jmp addr) := jump_range _ addr
theorem szM (m : Byte) : Statement (.szM m) := memory_range _ m (by decide)
theorem szaM (m : Byte) : Statement (.szaM m) := memory_range _ m (by decide)
theorem szMI (m : Byte) (i : Nat) : Statement (.szMI m i) := bit_range _ i m
theorem snzMI (m : Byte) (i : Nat) : Statement (.snzMI m i) := bit_range _ i m
theorem sizM (m : Byte) : Statement (.sizM m) := memory_range _ m (by decide)
theorem sdzM (m : Byte) : Statement (.sdzM m) := memory_range _ m (by decide)
theorem sizaM (m : Byte) : Statement (.sizaM m) := memory_range _ m (by decide)
theorem sdzaM (m : Byte) : Statement (.sdzaM m) := memory_range _ m (by decide)
theorem call (addr : Addr) : Statement (.call addr) := jump_range _ addr
theorem ret : Statement .ret := by show _ ≤ _; decide
theorem retAX (x : Byte) : Statement (.retAX x) := immediate_range _ x (by decide)
theorem reti : Statement .reti := by show _ ≤ _; decide
theorem tabrdcM (m : Byte) : Statement (.tabrdcM m) := memory_range _ m (by decide)
theorem tabrdlM (m : Byte) : Statement (.tabrdlM m) := memory_range _ m (by decide)
theorem nop : Statement .nop := by show _ ≤ _; decide
theorem clrM (m : Byte) : Statement (.clrM m) := memory_range _ m (by decide)
theorem setM (m : Byte) : Statement (.setM m) := memory_range _ m (by decide)
theorem clrWdt : Statement .clrWdt := by show _ ≤ _; decide
theorem clrWdt1 : Statement .clrWdt1 := by show _ ≤ _; decide
theorem clrWdt2 : Statement .clrWdt2 := by show _ ≤ _; decide
theorem swapM (m : Byte) : Statement (.swapM m) := memory_range _ m (by decide)
theorem swapaM (m : Byte) : Statement (.swapaM m) := memory_range _ m (by decide)
theorem halt : Statement .halt := by show _ ≤ _; decide

end EncodedFormat

end Sys2Proof.Laws
end

