-- ==== Sys2Proof/Tests/Slice0.lean ====
section
/-! SUPPORT. Tests. Expected words come from spec/opcode_table.json and 30_encoding.md, expected results from the vectors V1
to V171 of spec/95_test_vectors.md (named in each comment) or, where no vector is named, from the rule by hand; and for
every obligation with hypotheses a concrete input that meets them. -/

namespace Sys2Proof.Tests

open Sys2Proof Sys2Proof.Machine

/-! ### Well-formed instructions -/

/-- The one check, for each instruction that has a bit number: 8 is no bit number, 7 and 0 are. -/
theorem test_bit_number_8_is_ill_formed :
    (Instr.clrMI 0x60#8 8).wellFormed = false ∧ (Instr.setMI 0x60#8 8).wellFormed = false ∧
    (Instr.szMI 0x60#8 8).wellFormed = false ∧ (Instr.snzMI 0x60#8 8).wellFormed = false ∧
    (Instr.clrMI 0x60#8 7).wellFormed = true ∧ (Instr.snzMI 0x60#8 0).wellFormed = true := by decide

/-! ### Decoding: one written word of every constructor, with m = 61H, x = C6H, i = 6, addr = ABCH -/

theorem test_decode_arithmetic :
    decode 0b000_0001_0110_0001#15 = .ok (.addAM 0x61#8) ∧
    decode 0b000_0010_0110_0001#15 = .ok (.addmAM 0x61#8) ∧
    decode 0b011_0000_1100_0110#15 = .ok (.addAX 0xC6#8) ∧
    decode 0b000_0011_0110_0001#15 = .ok (.adcAM 0x61#8) ∧
    decode 0b000_0100_0110_0001#15 = .ok (.adcmAM 0x61#8) ∧
    decode 0b011_0001_1100_0110#15 = .ok (.subAX 0xC6#8) ∧
    decode 0b000_0101_0110_0001#15 = .ok (.subAM 0x61#8) ∧
    decode 0b000_0110_0110_0001#15 = .ok (.submAM 0x61#8) ∧
    decode 0b000_0111_0110_0001#15 = .ok (.sbcAM 0x61#8) ∧
    decode 0b000_1000_0110_0001#15 = .ok (.sbcmAM 0x61#8) ∧
    decode 0b000_1001_0110_0001#15 = .ok (.daaM 0x61#8) := by and_intros <;> rfl

theorem test_decode_logic :
    decode 0b000_1010_0110_0001#15 = .ok (.andAM 0x61#8) ∧
    decode 0b000_1011_0110_0001#15 = .ok (.orAM 0x61#8) ∧
    decode 0b000_1100_0110_0001#15 = .ok (.xorAM 0x61#8) ∧
    decode 0b000_1101_0110_0001#15 = .ok (.andmAM 0x61#8) ∧
    decode 0b000_1110_0110_0001#15 = .ok (.ormAM 0x61#8) ∧
    decode 0b000_1111_0110_0001#15 = .ok (.xormAM 0x61#8) ∧
    decode 0b011_0010_1100_0110#15 = .ok (.andAX 0xC6#8) ∧
    decode 0b011_0011_1100_0110#15 = .ok (.orAX 0xC6#8) ∧
    decode 0b011_0100_1100_0110#15 = .ok (.xorAX 0xC6#8) ∧
    decode 0b001_0000_0110_0001#15 = .ok (.cplM 0x61#8) ∧
    decode 0b001_0001_0110_0001#15 = .ok (.cplaM 0x61#8) := by and_intros <;> rfl

theorem test_decode_increment_rotate :
    decode 0b001_0010_0110_0001#15 = .ok (.incaM 0x61#8) ∧
    decode 0b001_0011_0110_0001#15 = .ok (.incM 0x61#8) ∧
    decode 0b001_0100_0110_0001#15 = .ok (.decaM 0x61#8) ∧
    decode 0b001_0101_0110_0001#15 = .ok (.decM 0x61#8) ∧
    decode 0b001_0110_0110_0001#15 = .ok (.rraM 0x61#8) ∧
    decode 0b001_0111_0110_0001#15 = .ok (.rrM 0x61#8) ∧
    decode 0b001_1000_0110_0001#15 = .ok (.rrcaM 0x61#8) ∧
    decode 0b001_1001_0110_0001#15 = .ok (.rrcM 0x61#8) ∧
    decode 0b001_1010_0110_0001#15 = .ok (.rlaM 0x61#8) ∧
    decode 0b001_1011_0110_0001#15 = .ok (.rlM 0x61#8) ∧
    decode 0b001_1100_0110_0001#15 = .ok (.rlcaM 0x61#8) ∧
    decode 0b001_1101_0110_0001#15 = .ok (.rlcM 0x61#8) := by and_intros <;> rfl

theorem test_decode_move_bit :
    decode 0b001_1110_0110_0001#15 = .ok (.movAM 0x61#8) ∧
    decode 0b001_1111_0110_0001#15 = .ok (.movMA 0x61#8) ∧
    decode 0b011_0101_1100_0110#15 = .ok (.movAX 0xC6#8) ∧
    decode 0b100_0110_0110_0001#15 = .ok (.clrMI 0x61#8 6) ∧
    decode 0b100_1110_0110_0001#15 = .ok (.setMI 0x61#8 6) := by and_intros <;> rfl

theorem test_decode_branch :
    decode 0b110_1010_1011_1100#15 = .ok (.jmp 0xABC#12) ∧
    decode 0b010_0000_0110_0001#15 = .ok (.szM 0x61#8) ∧
    decode 0b010_0001_0110_0001#15 = .ok (.szaM 0x61#8) ∧
    decode 0b101_0110_0110_0001#15 = .ok (.szMI 0x61#8 6) ∧
    decode 0b101_1110_0110_0001#15 = .ok (.snzMI 0x61#8 6) ∧
    decode 0b010_0010_0110_0001#15 = .ok (.sizM 0x61#8) ∧
    decode 0b010_0011_0110_0001#15 = .ok (.sdzM 0x61#8) ∧
    decode 0b010_0100_0110_0001#15 = .ok (.sizaM 0x61#8) ∧
    decode 0b010_0101_0110_0001#15 = .ok (.sdzaM 0x61#8) ∧
    decode 0b111_1010_1011_1100#15 = .ok (.call 0xABC#12) ∧
    decode 0b000_0000_0000_0101#15 = .ok .ret ∧
    decode 0b011_0110_1100_0110#15 = .ok (.retAX 0xC6#8) ∧
    decode 0b000_0000_0000_0110#15 = .ok .reti := by and_intros <;> rfl

theorem test_decode_table_misc :
    decode 0b010_0110_0110_0001#15 = .ok (.tabrdcM 0x61#8) ∧
    decode 0b010_0111_0110_0001#15 = .ok (.tabrdlM 0x61#8) ∧
    decode 0b000_0000_0000_0000#15 = .ok .nop ∧
    decode 0b010_1000_0110_0001#15 = .ok (.clrM 0x61#8) ∧
    decode 0b010_1001_0110_0001#15 = .ok (.setM 0x61#8) ∧
    decode 0b000_0000_0000_0001#15 = .ok .clrWdt ∧
    decode 0b000_0000_0000_0010#15 = .ok .clrWdt1 ∧
    decode 0b000_0000_0000_0011#15 = .ok .clrWdt2 ∧
    decode 0b010_1010_0110_0001#15 = .ok (.swapM 0x61#8) ∧
    decode 0b010_1011_0110_0001#15 = .ok (.swapaM 0x61#8) ∧
    decode 0b000_0000_0000_0100#15 = .ok .halt := by and_intros <;> rfl


/-- The spot checks of V40: the ends of the reserved ranges and the words next to them. -/
theorem test_decode_reserved :
    decode 0x0007#15 = .error (.functionCode 0x07) ∧ decode 0x00FF#15 = .error (.functionCode 0xFF) ∧
    decode 0x2C00#15 = .error (.opcode 0x2C) ∧ decode 0x2FFF#15 = .error (.opcode 0x2F) ∧
    decode 0x3700#15 = .error (.opcode 0x37) ∧ decode 0x3FFF#15 = .error (.opcode 0x3F) ∧
    decode 0x0006#15 = .ok .reti ∧ decode 0x0100#15 = .ok (.addAM 0x00#8) ∧ decode 0x2BFF#15 = .ok (.swapaM 0xFF#8) ∧
    decode 0x3000#15 = .ok (.addAX 0x00#8) ∧ decode 0x36FF#15 = .ok (.retAX 0xFF#8) ∧
    decode 0x4000#15 = .ok (.clrMI 0x00#8 0) := by and_intros <;> rfl

/-- The top bit of 16 table bits does not exist in a program word (R83). -/
theorem test_decodeTableWord :
    decodeTableWord 16 0x0160 = some (.addAM 0x60#8) ∧ decodeTableWord 16 0x8160 = none ∧
    decodeTableWord 16 0x0007 = none := by and_intros <;> rfl

/-! ### Instructions -/

/-- The start state of the derived vectors: pc = 100H, OPT = 0200H. -/
def base : State := { State.reset with pc := 0x100, opt := 0x0200#14 }

/-- `base` with ACC, the byte of STATUS (C, AC, Z, OV, PD, TO in bits 0 to 5) and [60H]. -/
def having (acc status m60 : Byte) : State :=
  { base with
    acc := acc, ram := [(0x60, m60)]
    flagC := status.getLsbD 0, flagAC := status.getLsbD 1, flagZ := status.getLsbD 2, flagOV := status.getLsbD 3
    flagPD := status.getLsbD 4, flagTO := status.getLsbD 5 }

/-- What is seen of the next state, if there is one. -/
def seen {α : Type} (r : Result) (view : State → α) : Option α :=
  match r with
  | .next t => some (view t)
  | _ => none

/-- ACC, STATUS and [60H]. -/
def data (t : State) : Byte × Byte × Byte := (t.acc, t.statusByte, t.ramByte 0x60)

/-- The program counter and the cycles. -/
def flow (t : State) : Addr × Nat := (t.pc, t.cyc)

/-- The program counter, the cycles, ACC and [60H]. -/
def flowData (t : State) : Addr × Nat × Byte × Byte := (t.pc, t.cyc, t.acc, t.ramByte 0x60)

/-- V3 -/
theorem test_add_carries_to_sign :
    seen (exec (.addAX 0x01#8) (having 0x7F#8 0x00#8 0x11#8)) data =
      some (0x80#8, 0x0A#8, 0x11#8) := by decide

/-- V4 -/
theorem test_add_wraps :
    seen (exec (.addAX 0x80#8) (having 0x80#8 0x00#8 0x11#8)) data =
      some (0x00#8, 0x0D#8, 0x11#8) := by decide

/-- V14 -/
theorem test_add_memory :
    seen (exec (.addAM 0x60#8) (having 0x25#8 0x00#8 0x1B#8)) data =
      some (0x40#8, 0x02#8, 0x1B#8) := by decide

/-- V11 -/
theorem test_adc_overflow :
    seen (exec (.adcAM 0x60#8) (having 0x7F#8 0x01#8 0x7F#8)) data =
      some (0xFF#8, 0x0A#8, 0x7F#8) := by decide

/-- V8 -/
theorem test_adc_carry_in :
    seen (exec (.adcAM 0x60#8) (having 0xFF#8 0x01#8 0xFF#8)) data =
      some (0xFF#8, 0x03#8, 0xFF#8) := by decide

/-- V12 -/
theorem test_addm_acc_doubles :
    seen (exec (.addmAM 0x05#8) (having 0x4B#8 0x00#8 0x11#8)) data =
      some (0x96#8, 0x0A#8, 0x11#8) := by decide

/-- R102: 34H + EFH of program P3 -/
theorem test_addm_memory :
    seen (exec (.addmAM 0x60#8) (having 0xEF#8 0x00#8 0x34#8)) data =
      some (0xEF#8, 0x03#8, 0x23#8) := by decide

/-- V15 -/
theorem test_adcm_zero :
    seen (exec (.adcmAM 0x60#8) (having 0x01#8 0x01#8 0xFE#8)) data =
      some (0x01#8, 0x07#8, 0x00#8) := by decide

/-- V18 -/
theorem test_sub_borrow :
    seen (exec (.subAX 0x05#8) (having 0x03#8 0x01#8 0x11#8)) data =
      some (0xFE#8, 0x00#8, 0x11#8) := by decide

/-- V19 -/
theorem test_sub_overflow :
    seen (exec (.subAX 0x01#8) (having 0x80#8 0x00#8 0x11#8)) data =
      some (0x7F#8, 0x09#8, 0x11#8) := by decide

/-- V17 with the operand in memory (R107) -/
theorem test_sub_memory :
    seen (exec (.subAM 0x60#8) (having 0x05#8 0x00#8 0x03#8)) data =
      some (0x02#8, 0x03#8, 0x03#8) := by decide

/-- V28 -/
theorem test_subm_direction :
    seen (exec (.submAM 0x60#8) (having 0x20#8 0x00#8 0x30#8)) data =
      some (0x20#8, 0x02#8, 0xF0#8) := by decide

/-- V24 -/
theorem test_sbc_borrow_in :
    seen (exec (.sbcAM 0x60#8) (having 0x50#8 0x00#8 0x50#8)) data =
      some (0xFF#8, 0x00#8, 0x50#8) := by decide

/-- V27 -/
theorem test_sbc_no_borrow :
    seen (exec (.sbcAM 0x60#8) (having 0x34#8 0x01#8 0x12#8)) data =
      some (0x22#8, 0x03#8, 0x12#8) := by decide

/-- V29 -/
theorem test_sbcm :
    seen (exec (.sbcmAM 0x60#8) (having 0x30#8 0x00#8 0x20#8)) data =
      some (0x30#8, 0x01#8, 0x0F#8) := by decide

/-- V33 -/
theorem test_daa_low :
    seen (exec (.daaM 0x60#8) (having 0x7D#8 0x00#8 0x11#8)) data =
      some (0x7D#8, 0x00#8, 0x83#8) := by decide

/-- V36 -/
theorem test_daa_both :
    seen (exec (.daaM 0x60#8) (having 0x32#8 0x03#8 0x11#8)) data =
      some (0x32#8, 0x03#8, 0x98#8) := by decide

/-- V42, V43 -/
theorem test_daa_band_candidates :
    [daaCandidate 0 0x9A#8 false false, daaCandidate 1 0x9A#8 false false, daaCandidate 0 0x1B#8 true false,
      daaCandidate 1 0x1B#8 true false] =
      [(0xA0#8, false), (0x00#8, true), (0x11#8, false), (0x21#8, false)] := by decide

/-- V45 -/
theorem test_and_immediate :
    seen (exec (.andAX 0x0F#8) (having 0xF0#8 0x0B#8 0x11#8)) data =
      some (0x00#8, 0x0F#8, 0x11#8) := by decide

/-- V50 -/
theorem test_and_memory :
    seen (exec (.andAM 0x60#8) (having 0xC3#8 0x00#8 0x3C#8)) data =
      some (0x00#8, 0x04#8, 0x3C#8) := by decide

/-- V47 -/
theorem test_or_immediate :
    seen (exec (.orAX 0x18#8) (having 0x81#8 0x04#8 0x11#8)) data =
      some (0x99#8, 0x00#8, 0x11#8) := by decide

/-- V47 with the operand in memory (R117) -/
theorem test_or_memory :
    seen (exec (.orAM 0x60#8) (having 0x81#8 0x04#8 0x18#8)) data =
      some (0x99#8, 0x00#8, 0x18#8) := by decide

/-- V49 -/
theorem test_xor_immediate :
    seen (exec (.xorAX 0xFF#8) (having 0x5A#8 0x04#8 0x11#8)) data =
      some (0xA5#8, 0x00#8, 0x11#8) := by decide

/-- V48 with the operand in memory (R118) -/
theorem test_xor_memory :
    seen (exec (.xorAM 0x60#8) (having 0x5A#8 0x00#8 0x5A#8)) data =
      some (0x00#8, 0x04#8, 0x5A#8) := by decide

/-- V51 -/
theorem test_andm :
    seen (exec (.andmAM 0x60#8) (having 0x0F#8 0x00#8 0xAA#8)) data =
      some (0x0F#8, 0x00#8, 0x0A#8) := by decide

/-- V52 -/
theorem test_orm :
    seen (exec (.ormAM 0x60#8) (having 0x0F#8 0x00#8 0xA0#8)) data =
      some (0x0F#8, 0x00#8, 0xAF#8) := by decide

/-- V53 -/
theorem test_xorm :
    seen (exec (.xormAM 0x60#8) (having 0xFF#8 0x00#8 0xFF#8)) data =
      some (0xFF#8, 0x04#8, 0x00#8) := by decide

/-- V55 -/
theorem test_cpl :
    seen (exec (.cplM 0x60#8) (having 0x11#8 0x04#8 0x5A#8)) data =
      some (0x11#8, 0x00#8, 0xA5#8) := by decide

/-- V58 -/
theorem test_cpl_zero_from_result :
    seen (exec (.cplM 0x11#8)
      { base with tmr1 := { State.reset.tmr1 with tm1 := true, tm0 := true, ton := true, phase := .armed } })
      (fun t => (t.memRead 0x11#8, t.flagZ)) =
      some (0x00#8, false) := by decide

/-- V57 -/
theorem test_cpla :
    seen (exec (.cplaM 0x60#8) (having 0x11#8 0x00#8 0xFF#8)) data =
      some (0x00#8, 0x04#8, 0xFF#8) := by decide

/-- V60 -/
theorem test_inc_wraps :
    seen (exec (.incM 0x60#8) (having 0x11#8 0x0B#8 0xFF#8)) data =
      some (0x11#8, 0x0F#8, 0x00#8) := by decide

/-- V64 -/
theorem test_inca :
    seen (exec (.incaM 0x60#8) (having 0x11#8 0x00#8 0xFF#8)) data =
      some (0x00#8, 0x04#8, 0xFF#8) := by decide

/-- V62 -/
theorem test_dec_wraps :
    seen (exec (.decM 0x60#8) (having 0x11#8 0x05#8 0x00#8)) data =
      some (0x11#8, 0x01#8, 0xFF#8) := by decide

/-- V65 -/
theorem test_deca :
    seen (exec (.decaM 0x60#8) (having 0x11#8 0x00#8 0x01#8)) data =
      some (0x00#8, 0x04#8, 0x01#8) := by decide

/-- V67 -/
theorem test_rr :
    seen (exec (.rrM 0x60#8) (having 0x11#8 0x04#8 0x01#8)) data =
      some (0x11#8, 0x04#8, 0x80#8) := by decide

/-- V68 -/
theorem test_rra :
    seen (exec (.rraM 0x60#8) (having 0x11#8 0x01#8 0x81#8)) data =
      some (0xC0#8, 0x01#8, 0x81#8) := by decide

/-- V69 -/
theorem test_rrc_out :
    seen (exec (.rrcM 0x60#8) (having 0x11#8 0x04#8 0x01#8)) data =
      some (0x11#8, 0x05#8, 0x00#8) := by decide

/-- V70 -/
theorem test_rrc_in :
    seen (exec (.rrcM 0x60#8) (having 0x11#8 0x01#8 0x00#8)) data =
      some (0x11#8, 0x00#8, 0x80#8) := by decide

/-- V71 -/
theorem test_rrca :
    seen (exec (.rrcaM 0x60#8) (having 0x11#8 0x01#8 0x80#8)) data =
      some (0xC0#8, 0x00#8, 0x80#8) := by decide

/-- V72 -/
theorem test_rl :
    seen (exec (.rlM 0x60#8) (having 0x11#8 0x00#8 0x80#8)) data =
      some (0x11#8, 0x00#8, 0x01#8) := by decide

/-- V73 -/
theorem test_rla :
    seen (exec (.rlaM 0x60#8) (having 0x11#8 0x00#8 0xC3#8)) data =
      some (0x87#8, 0x00#8, 0xC3#8) := by decide

/-- V74 -/
theorem test_rlc_out :
    seen (exec (.rlcM 0x60#8) (having 0x11#8 0x00#8 0x80#8)) data =
      some (0x11#8, 0x01#8, 0x00#8) := by decide

/-- V75 -/
theorem test_rlc_in :
    seen (exec (.rlcM 0x60#8) (having 0x11#8 0x01#8 0x00#8)) data =
      some (0x11#8, 0x00#8, 0x01#8) := by decide

/-- V77 -/
theorem test_rlca :
    seen (exec (.rlcaM 0x60#8) (having 0x11#8 0x01#8 0x7F#8)) data =
      some (0xFF#8, 0x00#8, 0x7F#8) := by decide

/-- V78 -/
theorem test_mov_reads_pcl :
    seen (exec (.movAM 0x06#8) { base with pc := 0x1FF }) (fun t => (t.acc, t.pc, t.cyc)) =
      some (0x00#8, 0x200#12, 1) := by decide

/-- V86 -/
theorem test_mov_through_mp1 :
    seen (exec (.movAM 0x02#8) { base with mp0 := 0x9C#8, mp1 := 0x01#8, acc := 0x77#8 }) (fun t => t.acc) =
      some 0x9C#8 := by decide

/-- V80 -/
theorem test_mov_to_pcl :
    seen (exec (.movMA 0x06#8) { base with pc := 0x2FF, acc := 0x40#8 }) flow =
      some (0x340#12, 2) := by decide

/-- V84 -/
theorem test_mov_through_mp0 :
    seen (exec (.movMA 0x00#8) { base with mp0 := 0x80#8, acc := 0x77#8 }) (fun t => (t.ramByte 0x80, t.mp0)) =
      some (0x77#8, 0x80#8) := by decide

/-- V92 -/
theorem test_mov_immediate :
    seen (exec (.movAX 0x5A#8) (having 0x11#8 0x04#8 0x22#8)) data =
      some (0x5A#8, 0x04#8, 0x22#8) := by decide

/-- V76 -/
theorem test_clr_bit_of_port :
    seen (exec (.clrMI 0x12#8 0) { base with pac := 0xF0#8, pads := { Pads.high with pa := 0x3F#8 } }) (fun t => t.paLatch) =
      some 0x3E#8 := by decide

/-- V89 -/
theorem test_clr_bit_of_pd :
    seen (exec (.clrMI 0x0A#8 4) (having 0x11#8 0x31#8 0x22#8)) data =
      some (0x11#8, 0x31#8, 0x22#8) := by decide

/-- V91 -/
theorem test_set_bit_of_c :
    seen (exec (.setMI 0x0A#8 0) (having 0x11#8 0x00#8 0x22#8)) data =
      some (0x11#8, 0x01#8, 0x22#8) := by decide

/-- R150: bit 6 and no other bit -/
theorem test_set_bit :
    seen (exec (.setMI 0x60#8 6) (having 0x11#8 0x00#8 0x81#8)) data =
      some (0x11#8, 0x00#8, 0xC1#8) := by decide

/-- V117 -/
theorem test_jmp :
    seen (exec (.jmp 0xABC#12) base) flow =
      some (0xABC#12, 2) := by decide

/-- V98 -/
theorem test_sz_skips :
    seen (exec (.szM 0x60#8) (having 0x55#8 0x00#8 0x00#8)) flowData =
      some (0x102#12, 2, 0x55#8, 0x00#8) := by decide

/-- V114 -/
theorem test_sz_skip_wraps :
    seen (exec (.szM 0x60#8) { having 0x55#8 0x00#8 0x00#8 with pc := 0xFFF }) flow =
      some (0x001#12, 2) := by decide

/-- V100 -/
theorem test_sza_skips :
    seen (exec (.szaM 0x60#8) (having 0x55#8 0x00#8 0x00#8)) flowData =
      some (0x102#12, 2, 0x00#8, 0x00#8) := by decide

/-- V101 -/
theorem test_sza_goes_on :
    seen (exec (.szaM 0x60#8) (having 0x55#8 0x00#8 0x09#8)) flowData =
      some (0x101#12, 1, 0x09#8, 0x09#8) := by decide

/-- V102 -/
theorem test_sz_bit_skips :
    seen (exec (.szMI 0x60#8 7) (having 0x55#8 0x00#8 0x7F#8)) flowData =
      some (0x102#12, 2, 0x55#8, 0x7F#8) := by decide

/-- V103 -/
theorem test_sz_bit_goes_on :
    seen (exec (.szMI 0x60#8 7) (having 0x55#8 0x00#8 0x80#8)) flowData =
      some (0x101#12, 1, 0x55#8, 0x80#8) := by decide

/-- V104 -/
theorem test_snz_bit_skips :
    seen (exec (.snzMI 0x60#8 0) (having 0x55#8 0x00#8 0x01#8)) flowData =
      some (0x102#12, 2, 0x55#8, 0x01#8) := by decide

/-- V105 -/
theorem test_snz_bit_goes_on :
    seen (exec (.snzMI 0x60#8 0) (having 0x55#8 0x00#8 0xFE#8)) flowData =
      some (0x101#12, 1, 0x55#8, 0xFE#8) := by decide

/-- V106 -/
theorem test_siz_skips :
    seen (exec (.sizM 0x60#8) (having 0x55#8 0x00#8 0xFF#8)) flowData =
      some (0x102#12, 2, 0x55#8, 0x00#8) := by decide

/-- V107 -/
theorem test_siz_goes_on :
    seen (exec (.sizM 0x60#8) (having 0x55#8 0x00#8 0x00#8)) flowData =
      some (0x101#12, 1, 0x55#8, 0x01#8) := by decide

/-- V108 -/
theorem test_sdz_skips :
    seen (exec (.sdzM 0x60#8) (having 0x55#8 0x00#8 0x01#8)) flowData =
      some (0x102#12, 2, 0x55#8, 0x00#8) := by decide

/-- V109 -/
theorem test_sdz_goes_on :
    seen (exec (.sdzM 0x60#8) (having 0x55#8 0x00#8 0x00#8)) flowData =
      some (0x101#12, 1, 0x55#8, 0xFF#8) := by decide

/-- V110 -/
theorem test_siza_skips :
    seen (exec (.sizaM 0x60#8) (having 0x55#8 0x00#8 0xFF#8)) flowData =
      some (0x102#12, 2, 0x00#8, 0xFF#8) := by decide

/-- V111 -/
theorem test_sdza_skips :
    seen (exec (.sdzaM 0x60#8) (having 0x55#8 0x00#8 0x01#8)) flowData =
      some (0x102#12, 2, 0x00#8, 0x01#8) := by decide

/-- V112 -/
theorem test_sdza_goes_on :
    seen (exec (.sdzaM 0x60#8) (having 0x55#8 0x00#8 0x02#8)) flowData =
      some (0x101#12, 1, 0x01#8, 0x02#8) := by decide

/-- V118 -/
theorem test_call_wraps :
    seen (exec (.call 0x234#12) { base with pc := 0xFFF }) (fun t => (t.pc, t.cyc, t.stk0, t.sp)) =
      some (0x234#12, 2, 0x000#12, 1) := by decide

/-- V122 -/
theorem test_call_on_full_stack :
    seen (exec (.call 0x050#12) { base with pc := 0x040, sp := 4, stk0 := 0x001, stk1 := 0x011, stk2 := 0x021, stk3 := 0x031 })
      (fun t => (t.stk0, t.stk1, t.stk2, t.stk3, t.sp)) =
      some (0x011#12, 0x021#12, 0x031#12, 0x041#12, 4) := by decide

/-- R166: the level pushed last, of two -/
theorem test_ret :
    seen (exec .ret { base with sp := 2, stk0 := 0x006, stk1 := 0x123 }) (fun t => (t.pc, t.sp, t.cyc, t.emi)) =
      some (0x123#12, 1, 2, false) := by decide

/-- V119 -/
theorem test_ret_with_value :
    seen (exec (.retAX 0x3F#8) { base with sp := 1, stk0 := 0x006 }) (fun t => (t.pc, t.acc, t.sp, t.cyc)) =
      some (0x006#12, 0x3F#8, 0, 2) := by decide

/-- V120 -/
theorem test_reti :
    seen (exec .reti { base with sp := 2, stk1 := 0x123, eei := true, et0i := true, et1i := true })
      (fun t => (t.pc, t.sp, t.intcByte, t.cyc)) =
      some (0x123#12, 1, 0x0F#8, 2) := by decide

/-- V123 -/
theorem test_tabrdc_before_page_end :
    seen (exec (.tabrdcM 0x60#8) { base with pc := 0x2FE, tblp := 0x10#8, rom := [(0x210, 0x7FFF#15), (0x310, 0x1234#15)] })
      (fun t => (t.ramByte 0x60, t.tblh, t.cyc)) =
      some (0xFF#8, 0x7F#7, 2) := by decide

/-- V124 -/
theorem test_tabrdc_at_page_end :
    seen (exec (.tabrdcM 0x60#8) { base with pc := 0x2FF, tblp := 0x10#8, rom := [(0x210, 0x7FFF#15), (0x310, 0x1234#15)] })
      (fun t => (t.ramByte 0x60, t.tblh, t.cyc)) =
      some (0x34#8, 0x12#7, 2) := by decide

/-- V125 -/
theorem test_tabrdl :
    seen (exec (.tabrdlM 0x05#8) { base with pc := 0x000, tblp := 0xFF#8, rom := [(0xFFF, 0x4A5B#15)] })
      (fun t => (t.acc, t.tblh, t.cyc)) =
      some (0x5B#8, 0x4A#7, 2) := by decide

/-- V126 -/
theorem test_tabrdl_to_pcl :
    seen (exec (.tabrdlM 0x06#8) { base with pc := 0x120, rom := [(0xF00, 0x0155#15)] })
      (fun t => (t.pc, t.tblh, t.cyc)) =
      some (0x155#12, 0x01#7, 3) := by decide

/-- V116 -/
theorem test_nop_wraps :
    seen (exec .nop { base with pc := 0xFFF }) flow =
      some (0x000#12, 1) := by decide

/-- V93 -/
theorem test_clr_status :
    seen (exec (.clrM 0x0A#8) (having 0x11#8 0x35#8 0x22#8)) data =
      some (0x11#8, 0x30#8, 0x22#8) := by decide

/-- V94 -/
theorem test_set_status :
    seen (exec (.setM 0x0A#8) (having 0x11#8 0x00#8 0x22#8)) data =
      some (0x11#8, 0x0F#8, 0x22#8) := by decide

/-- V96 -/
theorem test_swap :
    seen (exec (.swapM 0x60#8) (having 0x11#8 0x04#8 0xA5#8)) data =
      some (0x11#8, 0x04#8, 0x5A#8) := by decide

/-- V97 -/
theorem test_swapa :
    seen (exec (.swapaM 0x60#8) (having 0x11#8 0x00#8 0x1E#8)) data =
      some (0xE1#8, 0x00#8, 0x1E#8) := by decide

/-- V127 -/
theorem test_clr_wdt :
    seen (exec .clrWdt { having 0x11#8 0x30#8 0x22#8 with wdt := 9 }) (fun t => (t.wdt, t.statusByte)) =
      some (0, 0x00#8) := by decide

/-- V128 -/
theorem test_clr_wdt_inactive :
    seen (exec .clrWdt { having 0x11#8 0x30#8 0x22#8 with wdt := 9, opt := 0x0000#14 }) (fun t => (t.wdt, t.statusByte)) =
      some (9, 0x30#8) := by decide

/-- V129 -/
theorem test_clr_wdt1_alone :
    seen (exec .clrWdt1 { having 0x11#8 0x20#8 0x22#8 with wdt := 9, opt := 0x0000#14 })
      (fun t => (t.wdt, t.statusByte, t.wf1, t.wf2)) =
      some (9, 0x20#8, true, false) := by decide

/-- V131 -/
theorem test_clr_wdt2_after_wdt1 :
    seen (exec .clrWdt2 { having 0x11#8 0x20#8 0x22#8 with wdt := 9, opt := 0x0000#14, wf1 := true })
      (fun t => (t.wdt, t.statusByte, t.wf1, t.wf2)) =
      some (0, 0x00#8, false, false) := by decide

/-- V132 -/
theorem test_clr_wdt1_after_wdt2 :
    seen (exec .clrWdt1 { having 0x11#8 0x20#8 0x22#8 with wdt := 9, opt := 0x0000#14, wf2 := true })
      (fun t => (t.wdt, t.statusByte, t.wf1, t.wf2)) =
      some (0, 0x00#8, false, false) := by decide

/-- V134 -/
theorem test_halt :
    seen (exec .halt { having 0x11#8 0x20#8 0x22#8 with pc := 0x040, wdt := 9 }) (fun t => (t.statusByte, t.wdt, t.pc, t.halted)) =
      some (0x10#8, 0, 0x041#12, true) := by decide

/-- V113, V121: the stops of single instructions. -/
theorem test_instruction_stops :
    exec (.sizM 0x06#8) base = .refused .skipWithPclDestination ∧
    exec (.sdzM 0x06#8) base = .refused .skipWithPclDestination ∧
    exec .ret base = .fault .stackUnderflow := by and_intros <;> rfl

/-! ### Whole steps -/

/-- `base` with one word of program at 100H. -/
def running (w : Word) : State := { base with rom := [(0x100, w)] }

/-- A machine asleep in HALT at 040H, with the options `opt`. -/
def sleeping (opt : BitVec 14) : State := { base with pc := 0x041, halted := true, flagPD := true, opt := opt }

/-- A step in which the pads go to `p` while the machine sleeps. -/
def asleepPads (p : Pads) : Input := { Input.quiet with sleepPads := [p] }

/-- R68, R148: the first step after reset runs the word stored where it fetches. -/
theorem test_first_step :
    seen (step (State.reset.withFetchWord 16 0x355A)) (fun t => (t.acc, t.pc, t.cyc)) =
      some (0x5A#8, 0x001#12, 1) := by decide

/-- The reserved word 2C00H (R92), TON = 1 in mode 00 (V158), OP11 = 1 (R7). -/
theorem test_step_refuses :
    step (running 0x2C00#15) = .refused .reservedInstruction ∧
    step { base with tmr0 := { State.reset.tmr0 with ton := true } } = .refused .timerModeUnused ∧
    step { base with opt := 0x0800#14 } = .refused .badOption := by and_intros <;> rfl

/-- V139 -/
theorem test_interrupt_entry :
    seen (step { base with pc := 0x123, emi := true, eei := true, eif := true })
      (fun t => (t.stk0, t.sp, t.intcByte, t.pc)) = some (0x123#12, 1, 0x02#8, 0x004#12) := by decide

/-- V141 -/
theorem test_interrupt_priority :
    seen (step { base with emi := true, eei := true, et0i := true, et1i := true, eif := true, t0f := true, t1f := true })
      (fun t => (t.intcByte, t.pc)) = some (0x6E#8, 0x004#12) := by decide

/-- V143 -/
theorem test_full_stack_masks_interrupts :
    { base with emi := true, eei := true, eif := true, sp := 4 }.acknowledged = none ∧
    { base with emi := true, eei := true, eif := true, sp := 3 }.acknowledged = some .external := by decide

/-- V148, V149: TMR0L, then TMR0H of a timer that is off. -/
theorem test_low_byte_buffer_write :
    seen (exec (.movMA 0x0D#8) { base with acc := 0x34#8 }) (fun t => (t.lowbuf0, t.tmr0.pre)) =
      some (0x34#8, 0x0000#16) ∧
    seen (exec (.movMA 0x0C#8) { base with acc := 0x12#8, lowbuf0 := 0x34#8 }) (fun t => (t.tmr0.pre, t.tmr0.cnt)) =
      some (0x1234#16, 0x1234#16) := by decide

/-- V150: TMR0H latches the low byte. -/
theorem test_low_byte_buffer_read :
    seen (exec (.movAM 0x0C#8) { base with tmr0 := { State.reset.tmr0 with cnt := 0x1234#16 } })
      (fun t => (t.acc, t.lowbuf0)) = some (0x12#8, 0x34#8) := by decide

/-- V152: an overflow in the two cycles of a JMP. -/
theorem test_timer0_overflow :
    seen (step { running 0x6200#15 with
        tmr0 := { State.reset.tmr0 with tm1 := true, ton := true, te := false, cnt := 0xFFFE#16, pre := 0xFF00#16 } })
      (fun t => (t.tmr0.cnt, t.intcByte, t.pc)) = some (0xFF00#16, 0x20#8, 0x200#12) := by decide

/-- V153: an overflow in the one cycle of a NOP. -/
theorem test_timer1_overflow :
    seen (step { base with
        tmr1 := { State.reset.tmr1 with tm1 := true, ton := true, te := false, cnt := 0xFF#8, pre := 0xF0#8 } })
      (fun t => (t.tmr1.cnt, t.intcByte)) = some (0xF0#8, 0x40#8) := by decide

/-- V154: three rising edges at PC5. -/
theorem test_timer1_events :
    seen (step { base with
        tmr1 := { State.reset.tmr1 with tm0 := true, ton := true, te := false, cnt := 0x10#8 },
        pads := { Pads.high with pc := 0xDF#8 }, lastTmr1 := false,
        inputs := [{ Input.quiet with runPads := [Pads.high, { Pads.high with pc := 0xDF#8 }, Pads.high,
          { Pads.high with pc := 0xDF#8 }, Pads.high] }] })
      (fun t => t.tmr1.cnt) = some 0x13#8 := by decide

/-- V156: the start edge, and the stop edge, which clears TON. -/
theorem test_pulse_width :
    Timer.inputEdge (w := 8) true true false true
        { State.reset.tmr1 with tm1 := true, tm0 := true, ton := true, phase := .armed } =
      ({ State.reset.tmr1 with tm1 := true, tm0 := true, ton := true, phase := .counting }, false) ∧
    (Timer.inputEdge (w := 8) true true true false
        { State.reset.tmr1 with tm1 := true, tm0 := true, ton := true, phase := .counting, cnt := 0x14#8 }).1.controlByte =
      0xC8#8 := by decide

/-- V135 and V162: the watchdog on the instruction clock, at its last cycle. -/
theorem test_watchdog_reset :
    seen (step { having 0x5A#8 0x05#8 0x77#8 with opt := 0x1200#14, wdts := 0x00#8, wdt := 255, sp := 2, emi := true })
      (fun t => (t.pc, t.sp, t.statusByte, t.intcByte, t.wdts, data t)) =
      some (0x000#12, 0, 0x25#8, 0x00#8, 0x07#8, 0x5A#8, 0x25#8, 0x77#8) := by decide

/-- R214 with OP12 = 0: the periods of the oscillator in the time of an instruction, one short of the time-out and at it. -/
theorem test_watchdog_on_oscillator :
    (let s := { base with opt := 0x0200#14, wdts := 0x00#8, wdt := 250 };
      seen (step { s with inputs := [{ Input.quiet with runOsc := 5 }] }) (fun t => (t.pc, t.wdt, t.flagTO)) =
        some (0x101#12, 255, false) ∧
      seen (step { s with inputs := [{ Input.quiet with runOsc := 6 }] }) (fun t => (t.pc, t.wdt, t.flagTO)) =
        some (0x000#12, 0, true)) := by decide

/-- R186: INT falls and rises again in the time of an instruction. -/
theorem test_int_edge_in_an_instruction :
    seen (step { base with inputs := [{ Input.quiet with runPads := [{ Pads.high with int := false }, Pads.high] }] })
      (fun t => (t.eif, t.lastInt, t.pads.int)) = some (true, true, true) := by decide

/-- V163 -/
theorem test_res_in_normal_operation :
    seen (step { having 0x5A#8 0x05#8 0x77#8 with
        wdts := 0x03#8, sp := 2, pac := 0x00#8, paLatch := 0x00#8,
        inputs := [{ Input.quiet with res := true }] })
      (fun t => (t.pc, t.sp, t.wdts, t.pac, t.paLatch, data t)) =
      some (0x000#12, 0, 0x07#8, 0xFF#8, 0xFF#8, 0x5A#8, 0x05#8, 0x77#8) := by decide

/-- V164 -/
theorem test_res_in_halt :
    seen (step { sleeping 0x0200#14 with flagC := true, flagZ := true, inputs := [{ Input.quiet with res := true }] })
      (fun t => (t.pc, t.statusByte, t.halted)) = some (0x000#12, 0x15#8, false) := by decide

/-- V165 -/
theorem test_warm_reset :
    seen (step { sleeping 0x0200#14 with
        flagC := true, flagZ := true, emi := true, eei := true, et1i := true, wdts := 0x03#8, sp := 2, pac := 0x00#8,
        inputs := [{ Input.quiet with sleepOsc := 2048 }] })
      (fun t => (t.pc, t.sp, t.statusByte, t.intcByte, t.wdts, t.pac)) =
      some (0x000#12, 0, 0x35#8, 0x0B#8, 0x03#8, 0x00#8) := by decide

/-- V161 -/
theorem test_power_on :
    seen (step { sleeping 0x0200#14 with inputs := [{ Input.quiet with power := true }] })
      (fun t => (t.pc, t.sp, t.flagTO, t.flagPD, t.wdts, t.tmr0.controlByte)) =
      some (0x000#12, 0, false, false, 0x07#8, 0x08#8) := by decide

/-- V166 (the same step then runs the NOP at 041H) and V168. -/
theorem test_port_a_wake_up :
    seen (step { sleeping 0x0208#14 with inputs := [asleepPads { Pads.high with pa := 0xF7#8 }] })
      (fun t => (t.halted, t.pc, t.statusByte)) = some (false, 0x042#12, 0x10#8) ∧
    seen (step { sleeping 0x0200#14 with inputs := [asleepPads { Pads.high with pa := 0xF7#8 }] })
      (fun t => (t.halted, t.pc, t.statusByte)) = some (true, 0x041#12, 0x10#8) := by decide

/-- V169 -/
theorem test_interrupt_wake_up :
    seen (step { sleeping 0x0200#14 with emi := true, eei := true, inputs := [asleepPads { Pads.high with int := false }] })
      (fun t => (t.halted, t.stk0, t.pc, t.intcByte)) = some (false, 0x041#12, 0x004#12, 0x02#8) := by decide

/-- V170 (the same step then runs the NOP at 041H). -/
theorem test_disabled_interrupt_wake_up :
    seen (step { sleeping 0x0200#14 with inputs := [asleepPads { Pads.high with int := false }] })
      (fun t => (t.halted, t.pc, t.intcByte)) = some (false, 0x042#12, 0x10#8) := by decide

/-- V160: an event count overflow in HALT. -/
theorem test_event_overflow_wake_up :
    seen (step { sleeping 0x0200#14 with
        tmr0 := { State.reset.tmr0 with tm0 := true, ton := true, te := false, cnt := 0xFFFF#16, pre := 0x1234#16 }
        pads := { Pads.high with int := false }, lastInt := false, inputs := [asleepPads Pads.high] })
      (fun t => (t.halted, t.tmr0.cnt, t.t0f)) = some (false, 0x1234#16, true) := by decide

/-- A power cycle and a RES reset, with these levels on the pads in that step. -/
def powerWith (p : List Pads) : Input := { Input.quiet with power := true, runPads := p }
def resWith (p : List Pads) : Input := { Input.quiet with res := true, runPads := p }

/-- R54 (two power-ons draw under different numbers, none that of the launch) and R232 (after a power cycle an undriven line
reads 1, a driven one its level). -/
theorem test_power_cycles :
    (let s := { base with inputs := [powerWith [], powerWith [{ Pads.high with pb := 0x5A#8 }]] };
      base.ramDraw ≠ base.draws ∧
      seen (step s) (fun t => (t.ramDraw, t.draws, t.memRead 0x12#8)) = some (1, 2, 0xFF#8) ∧
      seen (step { s with draws := 2, inputs := s.inputs.tail })
        (fun t => (t.ramDraw, t.draws, t.memRead 0x12#8, t.memRead 0x14#8)) = some (2, 3, 0xFF#8, 0x5A#8)) := by
  decide

/-- R53: RES leaves the edge detectors' memory as it was, and R232: the inputs read the present levels. -/
theorem test_pads_in_res :
    seen (step { base with inputs := [resWith [{ Pads.high with int := false, pd := 0x00#8 }]] })
      (fun t => (t.lastInt, t.pads.int, t.eif, t.memRead 0x18#8)) = some (true, false, false, 0x00#8) := by decide

/-- R248: the instruction clock is on OSC2 in RC mode alone, at 1 MHz for 4 MHz; log 39: it stops in HALT. -/
theorem test_osc2 :
    { base with opt := 0x0000#14 }.osc2 = .instructionClock ∧ { base with opt := 0x0100#14 }.osc2 = .crystal ∧
    (sleeping 0x0000#14).osc2 = .stopped ∧
    Timing.osc2Hz { variant := .ht48r51_1, supply := .v5, fSysKHz := 4000, wdtOscUs := 65 } = 1000000 := by decide

/-- Timing parameters within R9 at their greatest, and the input that fits one cycle of them: one short pulse at INT. -/
theorem test_environment_fits :
    let t : Timing := { variant := .ht48r51_1, supply := .v5, fSysKHz := 4000, wdtOscUs := 130 }
    LegalTiming t .crystal ∧
    EnvironmentFits t base { Input.quiet with runPads := [{ Pads.high with int := false }, Pads.high] } 1 :=
  ⟨⟨by decide, ⟨_, rfl, by decide⟩, ⟨_, rfl, by decide, by decide⟩⟩,
    ⟨by unfold Timing.lastsAtLeast; decide, by decide, by decide, by unfold Timing.lastsAtLeast; decide,
      by unfold Timing.lastsLessThan; decide⟩⟩

/-! ### Witnesses: inputs that meet the hypotheses of the obligations, clause by clause, at the ends of the ranges

An obligation not named here has no hypotheses. -/

/-- RAM with its first and its last cell written. -/
def twoCells : State := { base with ram := [(0x60, 0x12#8), (0xFF, 0x34#8)] }

/-- AdditionToMemory, SubtractionToMemory, LogicToMemory, IncrementDecrementInMemory, RotateInMemory, PlainStores and
WrittenByteReadsBack: canonical RAM, empty and not. -/
theorem witness_canonical_ram : Memory.wf twoCells.ram = true ∧ Memory.wf base.ram = true := by decide

/-- DecodeOfEncode, at the last bit number. -/
theorem witness_DecodeOfEncode : (Instr.snzMI 0xFF#8 7).wellFormed = true := by decide

/-- EncodeOfDecode, at the first word after a reserved range and at the last word. -/
theorem witness_EncodeOfDecode :
    decode 0x4000#15 = .ok (.clrMI 0x00#8 0) ∧ decode 0x7FFF#15 = .ok (.call 0xFFF#12) := by and_intros <;> rfl

/-- StepRunsDecodedInstruction, with and without inputs to come. -/
theorem witness_StepRunsDecodedInstruction :
    ∀ s : State, s = running 0x7FFF#15 ∨ s = { running 0x7FFF#15 with inputs := [Input.quiet] } →
      s.badOption = false ∧ s.input.power = false ∧ s.input.res = false ∧ s.halted = false ∧ s.acknowledged = none ∧
        decode (s.progRead s.pc) = .ok (.call 0xFFF#12) := by
  rintro s (rfl | rfl) <;> and_intros <;> rfl

/-- StepRunsDecodedInstruction, of any encoding: SPEC-ENC, with a word that is an instruction and with one that is none. -/
theorem witness_StepRunsDecodedInstruction_encodings :
    specEncoding ((running 0x7FFF#15).progRead (running 0x7FFF#15).pc) = some (.call 0xFFF#12) ∧
    specEncoding ((running 0x2C00#15).progRead (running 0x2C00#15).pc) = none := by and_intros <;> rfl

/-- StepRefusals, first clause: the last word of the last reserved range. -/
theorem witness_StepRefusals_reserved :
    (running 0x3FFF#15).badOption = false ∧ (running 0x3FFF#15).input.power = false ∧
    (running 0x3FFF#15).input.res = false ∧ (running 0x3FFF#15).halted = false ∧
    (running 0x3FFF#15).acknowledged = none ∧
    ∃ r, decode ((running 0x3FFF#15).progRead (running 0x3FFF#15).pc) = .error r :=
  ⟨rfl, rfl, rfl, rfl, rfl, .opcode 0x3F, rfl⟩

/-- StepRefusals, the other clauses: OP10 alone and OP11 alone, timer 0 alone and timer 1 alone. -/
theorem witness_StepRefusals_options_and_modes :
    (0x0400#14).getLsbD 10 = true ∧ (0x0800#14).getLsbD 11 = true ∧
    { State.reset.tmr0 with ton := true }.mode = .unused ∧ { State.reset.tmr1 with ton := true }.mode = .unused := by
  decide

/-- NopStepWithDevicesOff. -/
theorem witness_NopStepWithDevicesOff :
    let s := { base with opt := 0x2200#14 }
    s.badOption = false ∧ s.inputs = [] ∧ s.halted = false ∧ s.emi = false ∧ s.progRead s.pc = 0x0000#15 ∧
      s.tmr0.ton = false ∧ s.tmr1.ton = false ∧ s.wdtDisabled = true ∧ s.tmr0.blocked = false ∧
      s.tmr1.blocked = false := by decide

/-- StepKeepsInvariant and PromsNeverChange: the step of a RETI from a full stack, and of a machine asleep. -/
theorem witness_StepKeepsInvariant :
    (Invariant { running 0x0006#15 with sp := 4 } ∧ ∃ t, step { running 0x0006#15 with sp := 4 } = .next t) ∧
    Invariant (sleeping 0x0200#14) ∧ ∃ t, step (sleeping 0x0200#14) = .next t :=
  ⟨⟨by constructor <;> decide, _, rfl⟩, by constructor <;> decide, _, rfl⟩

/-- OnlyTheseChange: the NOP meets the conditions of all three clauses. -/
theorem witness_OnlyTheseChange :
    (∃ t, exec .nop base = .next t) ∧ Instr.nop ≠ .halt ∧ (∀ a, Instr.nop ≠ .call a) ∧ ∀ m, Instr.nop ≠ .tabrdcM m :=
  ⟨⟨_, rfl⟩, by decide, nofun, nofun⟩

/-- OperandResolution: addresses next to the indirect ones, and pointers that name a cell and that name an indirect
register. -/
theorem witness_OperandResolution :
    (0x01#8 ≠ 0x00#8 ∧ 0x01#8 ≠ 0x02#8) ∧ (0x03#8 ≠ 0x00#8 ∧ 0x03#8 ≠ 0x02#8) ∧
    { base with mp0 := 0x01#8 }.mp0 ≠ 0x00#8 ∧ { base with mp0 := 0x01#8 }.mp0 ≠ 0x02#8 ∧
    { base with mp1 := 0xFF#8 }.mp1 ≠ 0x00#8 ∧ { base with mp1 := 0xFF#8 }.mp1 ≠ 0x02#8 ∧
    base.mp0 = 0x00#8 ∧ { base with mp1 := 0x02#8 }.mp1 = 0x02#8 := by decide

/-- RegistersRead and WrittenByteReadsBack: the ends of the reserved range and of RAM; no address is in both. -/
theorem witness_address_ranges :
    (0x1A ≤ (0x1A#8).toNat ∧ (0x1A#8).toNat ≤ 0x5F) ∧ (0x1A ≤ (0x5F#8).toNat ∧ (0x5F#8).toNat ≤ 0x5F) ∧
    0x60 ≤ (0x60#8).toNat ∧ 0x60 ≤ (0xFF#8).toNat ∧ ¬ 0x60 ≤ (0x5F#8).toNat := by decide

/-- PortsRead, BitStores, Skips: the first and the last bit number. -/
theorem witness_bit_numbers : 0 < 8 ∧ 7 < 8 ∧ ¬ 8 < 8 := by decide

/-- DaaOutsideBands, next to band B1 (99H) and next to band B2 (AC = 0). -/
theorem witness_DaaOutsideBands :
    ∀ s : State, s = having 0x99#8 0x00#8 0x11#8 ∨ s = having 0x8A#8 0x00#8 0x11#8 ∨ s = having 0x09#8 0x02#8 0x11#8 →
      Memory.wf s.ram = true ∧
      ¬ (s.acc.toNat / 16 = 9 ∧ 9 < s.acc.toNat % 16 ∧ s.flagAC = false ∧ s.flagC = false) ∧
      ¬ (9 < s.acc.toNat % 16 ∧ s.flagAC = true) := by
  rintro s (rfl | rfl | rfl) <;> decide

/-- DaaInsideBands: V42, the end of band B1, V43 and an input with C = 1. -/
theorem witness_DaaInsideBands :
    (∀ s : State, s = having 0x9A#8 0x00#8 0x11#8 ∨ s = having 0x9F#8 0x00#8 0x11#8 →
      Memory.wf s.ram = true ∧ s.acc.toNat / 16 = 9 ∧ 9 < s.acc.toNat % 16 ∧ s.flagAC = false ∧ s.flagC = false) ∧
    ∀ s : State, s = having 0x1B#8 0x02#8 0x11#8 ∨ s = having 0x9A#8 0x03#8 0x11#8 →
      Memory.wf s.ram = true ∧ 9 < s.acc.toNat % 16 ∧ s.flagAC = true := by
  constructor
  · rintro s (rfl | rfl) <;> decide
  · rintro s (rfl | rfl) <;> decide

/-- DecimalAddition: 38 + 45, and 99 + 99. -/
theorem witness_DecimalAddition :
    ∀ a x : Byte, (a = 0x38#8 ∧ x = 0x45#8) ∨ (a = 0x99#8 ∧ x = 0x99#8) →
      isDecimal (having a 0x00#8 0x11#8).acc ∧ isDecimal x ∧
      ¬ (a.toNat / 16 + x.toNat / 16 = 9 ∧ 10 ≤ a.toNat % 16 + x.toNat % 16 ∧ a.toNat % 16 + x.toNat % 16 ≤ 15) ∧
      ∃ t, exec (.addAX x) (having a 0x00#8 0x11#8) = .next t := by
  rintro a x (⟨rfl, rfl⟩ | ⟨rfl, rfl⟩) <;> exact ⟨by unfold isDecimal; decide, by unfold isDecimal; decide, by decide, _, rfl⟩

/-- SkipsWithStore: a cell that is not PCL, PCL itself, and PCL through MP0. -/
theorem witness_SkipsWithStore :
    Memory.wf twoCells.ram = true ∧ twoCells.resolve 0xFF#8 ≠ some 0x06#8 ∧ twoCells.resolve 0x06#8 = some 0x06#8 ∧
    { twoCells with mp0 := 0x06#8 }.resolve 0x00#8 = some 0x06#8 := by decide

/-- Returns: one level, all four, none. -/
theorem witness_Returns : { base with sp := 1 }.sp ≠ 0 ∧ { base with sp := 4 }.sp ≠ 0 ∧ base.sp = 0 := by decide

/-- FourCallsReturnInOrder, from an empty and from a full stack. -/
theorem witness_FourCallsReturnInOrder :
    ∀ s : State, s = base ∨ s = { base with sp := 4 } →
      ∃ t1 t2 t3 t4, exec (.call 0x200#12) s = .next t1 ∧ exec (.call 0x300#12) t1 = .next t2 ∧
        exec (.call 0xFFF#12) t2 = .next t3 ∧ exec (.call 0x000#12) t3 = .next t4 := by
  rintro s (rfl | rfl) <;> exact ⟨_, _, _, _, rfl, rfl, rfl, rfl⟩

/-- TableReads: a page of npc that is not the page of the instruction, and the last word of program memory. -/
theorem witness_TableReads :
    let s := { base with pc := 0x2FF, tblp := 0xFF#8, rom := [(0x3FF, 0x1234#15), (0xFFF, 0x7FFF#15)] }
    Memory.wf s.ram = true ∧
    s.progRead (BitVec.ofNat 12 (256 * ((s.pc + 1).toNat / 256) + s.tblp.toNat)) = 0x1234#15 ∧
    s.progRead (BitVec.ofNat 12 (0xF00 + s.tblp.toNat)) = 0x7FFF#15 := by decide

/-- InterruptEntry: each source; and AcknowledgeByPriority's last clause. -/
theorem witness_InterruptEntry :
    (∀ s : State, s = { base with emi := true, eei := true, eif := true, sp := 3 } →
      s.badOption = false ∧ s.input.power = false ∧ s.input.res = false ∧ s.halted = false ∧
        s.acknowledged = some .external) ∧
    { base with emi := true, et0i := true, t0f := true }.acknowledged = some .timer0 ∧
    { base with emi := true, et1i := true, t1f := true, eif := true }.acknowledged = some .timer1 ∧
    { base with sp := 4 }.sp.val = 4 := by
  refine ⟨?_, by decide⟩
  rintro s rfl; decide

/-- A state in which `k` has a request and is enabled, with `sp` levels in use. -/
def asking (k : Source) (sp : Fin 5) (emi : Bool) : State :=
  match k with
  | .external => { base with sp := sp, emi := emi, eei := true, eif := true }
  | .timer0 => { base with sp := sp, emi := emi, et0i := true, t0f := true }
  | .timer1 => { base with sp := sp, emi := emi, et1i := true, t1f := true }

/-- ReturnsReleaseInterrupts: each source, held back by a full stack, by EMI = 0, and by both. -/
theorem witness_ReturnsReleaseInterrupts :
    ∀ (k : Source) (s : State), s = asking k 4 true ∨ s = asking k 1 false ∨ s = asking k 4 false →
      State.acknowledged { s with emi := true, sp := 0 } = some k ∧ (s.sp.val = 4 ∨ s.emi = false) ∧
      (∃ t, exec .ret s = .next t) ∧ (∃ t, exec (.retAX 0xFF#8) s = .next t) ∧ ∃ t, exec .reti s = .next t := by
  rintro k s (rfl | rfl | rfl) <;> cases k <;>
    exact ⟨by decide, by decide, ⟨_, rfl⟩, ⟨_, rfl⟩, _, rfl⟩

/-- ResReset, in normal operation and in HALT. -/
theorem witness_ResReset :
    ∀ s : State, s = { base with inputs := [{ Input.quiet with res := true }] } ∨
        s = { sleeping 0x0200#14 with inputs := [{ Input.quiet with res := true }] } →
      s.badOption = false ∧ s.input.power = false ∧ s.input.res = true := by
  rintro s (rfl | rfl) <;> decide

/-- WatchdogTimeOut: disabled; one count below the time-out and at it, on the instruction clock and on the oscillator. -/
theorem witness_WatchdogTimeOut :
    { base with opt := 0x2000#14 }.opt.getLsbD 13 = true ∧
    (let s := { base with opt := 0x1000#14, wdts := 0x00#8, wdt := 254, cyc := 1 };
      s.opt.getLsbD 13 = false ∧ s.wdt + (if s.opt.getLsbD 12 then s.cyc else 9) < 256 * 2 ^ (s.wdts.toNat % 8)) ∧
    (let s := { base with opt := 0x1000#14, wdts := 0x00#8, wdt := 255, cyc := 1 };
      256 * 2 ^ (s.wdts.toNat % 8) ≤ s.wdt + (if s.opt.getLsbD 12 then s.cyc else 0)) ∧
    let s := { base with opt := 0x0000#14, wdts := 0x07#8, wdt := 32767, cyc := 9 }
    s.wdt + (if s.opt.getLsbD 12 then s.cyc else 0) < 256 * 2 ^ (s.wdts.toNat % 8) ∧
      256 * 2 ^ (s.wdts.toNat % 8) ≤ s.wdt + (if s.opt.getLsbD 12 then s.cyc else 1) := by decide

/-- WatchdogTimeOut, in the time of an instruction: disabled; one oscillator period below the time-out, and at it. -/
theorem witness_WatchdogTimeOut_finish :
    let s := { base with opt := 0x0000#14, wdts := 0x07#8, wdt := 32760, cyc := 2 }
    s.tmr0.onInUnusedMode = false ∧ s.tmr1.onInUnusedMode = false ∧ s.opt.getLsbD 13 = false ∧
      { s with opt := 0x2000#14 }.opt.getLsbD 13 = true ∧
      s.wdtAfter { Input.quiet with runOsc := 7 } < 256 * 2 ^ (s.wdts.toNat % 8) ∧
      256 * 2 ^ (s.wdts.toNat % 8) ≤ s.wdtAfter { Input.quiet with runOsc := 8 } := by decide

/-- WarmReset, at the time-out exactly. -/
theorem witness_WarmReset :
    let s := { sleeping 0x0200#14 with wdts := 0x00#8, wdt := 255, inputs := [{ Input.quiet with sleepOsc := 1 }] }
    Invariant s ∧ s.input.power = false ∧ s.input.res = false ∧ s.halted = true ∧ s.input.sleepPads = [] ∧
      s.opt.getLsbD 13 = false ∧ s.opt.getLsbD 12 = false ∧
      256 * 2 ^ (s.wdts.toNat % 8) ≤ s.wdt + s.input.sleepOsc :=
  ⟨by constructor <;> decide, rfl, rfl, rfl, rfl, by decide, by decide, by decide⟩

/-- PowerOnReset. -/
theorem witness_PowerOnReset :
    let s := { base with inputs := [{ Input.quiet with power := true }] }
    s.badOption = false ∧ s.input.power = true := by decide

/-- OscillatorTimeOutBounds at 5V with the ratio 1:1: 255 periods in 8959 microseconds, and 256 in 33280. -/
theorem witness_OscillatorTimeOutBounds :
    let s := { base with opt := 0x0000#14, wdts := 0x00#8, wdt := 200 }
    let f : Config.Figure := { least := 35, typical := 65, greatest := 130 }
    Config.wdtOscUs .ht48r51_1 .v5 = some f ∧ s.opt.getLsbD 13 = false ∧ s.opt.getLsbD 12 = false ∧
    (oscPeriodsFit f 8959 (s.wdt + 55) ∧ 8959 < 256 * 2 ^ (s.wdts.toNat % 8) * f.least) ∧
    oscPeriodsFit f 33280 (s.wdt + 56) ∧ 256 * 2 ^ (s.wdts.toNat % 8) * f.greatest ≤ 33280 := by
  unfold oscPeriodsFit; decide

/-- SleepsWithoutEvents, with a count of cycles left over from the last instruction. -/
theorem witness_SleepsWithoutEvents :
    let s := { sleeping 0x0200#14 with cyc := 1 }
    Invariant s ∧ s.halted = true ∧ s.inputs = [] ∧ s.eif = false ∧ s.t0f = false ∧ s.t1f = false :=
  ⟨by constructor <;> decide, rfl, rfl, rfl, rfl, rfl⟩

/-- PortAWakeUp: a falling edge on line 7 with the option bit of line 7, and with those of all other lines. -/
theorem witness_PortAWakeUp :
    let p := { Pads.high with pa := 0x7F#8 }
    let s := { sleeping 0x0280#14 with inputs := [asleepPads p] }
    let u := { sleeping 0x027F#14 with inputs := [asleepPads p] }
    (SleepsWith s p ∧
      ∃ i, i < 8 ∧ s.lastPa.getLsbD i = true ∧ p.pa.getLsbD i = false ∧ s.opt.getLsbD i = true) ∧
    SleepsWith u p ∧
      (∀ i, i < 8 → u.lastPa.getLsbD i = true → p.pa.getLsbD i = false → u.opt.getLsbD i = false) ∧
      ¬ (u.lastInt = true ∧ p.int = false) ∧ u.tmr0.ton = false ∧ u.tmr1.ton = false ∧
      u.eif = false ∧ u.t0f = false ∧ u.t1f = false :=
  ⟨⟨⟨by constructor <;> decide, rfl, rfl, rfl, rfl, rfl⟩, 7, by decide, by decide, by decide, by decide⟩,
    ⟨by constructor <;> decide, rfl, rfl, rfl, rfl, rfl⟩, by decide, by decide, rfl, rfl, rfl, rfl, rfl⟩

/-- ExternalInterruptWakeUp: the interrupt enabled and three levels in use, and each way in which no source can be
acknowledged: EMI = 0, the stack full (V171), EEI = 0. -/
theorem witness_ExternalInterruptWakeUp :
    let p := { Pads.high with int := false }
    let s (emi eei : Bool) (sp : Fin 5) : State :=
      { sleeping 0x0200#14 with emi := emi, eei := eei, sp := sp, inputs := [asleepPads p] }
    SleepsWith (s true true 3) p ∧ SleepsWith (s false true 0) p ∧ SleepsWith (s true true 4) p ∧
      SleepsWith (s true false 0) p ∧ (s true false 0).lastInt = true ∧ p.int = false ∧
      (s true false 0).et0i = false ∧ (s true false 0).et1i = false :=
  ⟨⟨by constructor <;> decide, rfl, rfl, rfl, rfl, rfl⟩, ⟨by constructor <;> decide, rfl, rfl, rfl, rfl, rfl⟩,
    ⟨by constructor <;> decide, rfl, rfl, rfl, rfl, rfl⟩, ⟨by constructor <;> decide, rfl, rfl, rfl, rfl, rfl⟩,
    rfl, rfl, rfl, rfl⟩

/-- EventOverflowWakeUp: timer 0 at its last count with a rising edge, timer 1 with a falling edge, and timer 0 one count
earlier. -/
theorem witness_EventOverflowWakeUp :
    let counter : Timer 16 := { State.reset.tmr0 with tm0 := true, ton := true, te := false, cnt := 0xFFFF#16 }
    let low := { Pads.high with pc := 0xDF#8 }
    let s := { sleeping 0x0200#14 with tmr0 := counter, lastInt := false, inputs := [asleepPads Pads.high] }
    let t := { sleeping 0x0200#14 with
      tmr1 := { State.reset.tmr1 with tm0 := true, ton := true, te := true, cnt := 0xFF#8 }, inputs := [asleepPads low] }
    let u := { s with tmr0 := { counter with cnt := 0xFFFE#16 } }
    (SleepsWith s Pads.high ∧ s.tmr0.ton = true ∧ s.tmr0.mode = .eventCount ∧ s.lastInt = s.tmr0.te ∧
      Pads.high.int = !s.tmr0.te ∧ s.tmr0.cnt = 0xFFFF#16) ∧
    (SleepsWith t low ∧ t.tmr1.ton = true ∧ t.tmr1.mode = .eventCount ∧ t.lastTmr1 = t.tmr1.te ∧
      t.tmr1Level low = !t.tmr1.te ∧ t.tmr1.cnt = 0xFF#8) ∧
    SleepsWith u Pads.high ∧ u.tmr0.ton = true ∧ u.tmr0.mode = .eventCount ∧ u.tmr0.te = false ∧ u.lastInt = false ∧
      Pads.high.int = true ∧ u.tmr0.cnt ≠ 0xFFFF#16 ∧ Pads.high.pa = u.lastPa ∧ u.tmr1.ton = false ∧ u.eif = false ∧
      u.t0f = false ∧ u.t1f = false :=
  ⟨⟨⟨by constructor <;> decide, rfl, rfl, rfl, rfl, rfl⟩, rfl, rfl, rfl, rfl, rfl⟩,
    ⟨⟨by constructor <;> decide, rfl, rfl, rfl, rfl, rfl⟩, rfl, rfl, rfl, by decide, rfl⟩,
    ⟨by constructor <;> decide, rfl, rfl, rfl, rfl, rfl⟩, rfl, rfl, rfl, rfl, rfl, by decide, rfl, rfl, rfl, rfl, rfl⟩

/-- TimersCountCycles: timer 0 on before and after, timer 1 turned on by the instruction, with the watchdog disabled and with
the watchdog one count short of its time-out. -/
theorem witness_TimersCountCycles :
    let before := { base with tmr0 := { State.reset.tmr0 with tm1 := true, ton := true } }
    let s := { before with tmr1 := { State.reset.tmr1 with tm1 := true, ton := true }, cyc := 2, opt := 0x2200#14 }
    let u := { s with opt := 0x1200#14, wdts := 0x00#8, wdt := 253 }
    s.tmr0.onInUnusedMode = false ∧ s.tmr1.onInUnusedMode = false ∧ s.lastInt = s.pads.int ∧
      s.lastTmr1 = s.tmr1Level s.pads ∧ s.opt.getLsbD 13 = true ∧
      u.wdt + (if u.opt.getLsbD 12 then u.cyc else 9) < 256 * 2 ^ (u.wdts.toNat % 8) ∧
      before.tmr0.ton = true ∧ s.tmr0.ton = true ∧ s.tmr0.mode = .timer ∧ before.tmr1.ton = false := by decide

/-- CountsAndReloads: one count short of the overflow, and the overflow with the longest and the shortest period. -/
theorem witness_CountsAndReloads :
    (0xFE#8).toNat + 1 < 2 ^ 8 ∧ 2 ^ 8 ≤ (0xFF#8).toNat + 1 ∧
    countUp 0x00#8 1 0xFF#8 = (0x00#8, true) ∧ countUp 0xFF#8 3 0xFF#8 = (0xFF#8, true) := by decide

/-- PadEdges: a timer in event count mode at its last count, an armed and a counting one in pulse width mode. -/
theorem witness_PadEdges :
    { State.reset.tmr1 with tm0 := true, ton := true }.mode = .eventCount ∧
    { State.reset.tmr1 with tm0 := true, ton := true }.blocked = false ∧
    { State.reset.tmr1 with tm0 := true, cnt := 0xFF#8 }.cnt = BitVec.allOnes 8 ∧
    { State.reset.tmr0 with tm1 := true, tm0 := true, ton := true, phase := .armed }.mode = .pulseWidth ∧
    { State.reset.tmr0 with tm1 := true, tm0 := true, phase := .armed }.phase = .armed ∧
    { State.reset.tmr0 with tm1 := true, tm0 := true, phase := .counting }.phase = .counting := by decide

/-- PadEdges, in the time of an instruction: no time-out, with the watchdog disabled and enabled; and a pad that goes low, high
and low again has the numbers of edges of each case of an armed measurement, and of one that counts. -/
theorem witness_PadEdges_finish :
    (let s := { base with opt := 0x2200#14, cyc := 1 };
      s.tmr0.onInUnusedMode = false ∧ s.tmr1.onInUnusedMode = false ∧ s.opt.getLsbD 13 = true) ∧
    State.wdtAfter { base with cyc := 1 } { Input.quiet with runOsc := 9 } < 256 * 2 ^ (base.wdts.toNat % 8) ∧
    edgesTo true true [false] = 0 ∧
    (0 < edgesTo true true [false, true] ∧ edgesTo false true [false, true] = (decide (true = true)).toNat) ∧
    (decide (true = true)).toNat < edgesTo false true [false, true, false] ∧
    edgesTo false true [true] = 0 ∧ 0 < edgesTo false true [true, false] := by decide

/-- LowByteBuffer, reads and writes. -/
theorem witness_LowByteBuffer :
    (∃ t u, exec (.movAM 0x0C#8) { base with tmr0 := { State.reset.tmr0 with cnt := 0x1234#16 } } = .next t ∧
      exec (.movAM 0x0D#8) t = .next u) ∧
    ∃ t u, exec (.movMA 0x0D#8) { base with acc := 0x34#8 } = .next t ∧ exec (.movMA 0x0C#8) t = .next u :=
  ⟨⟨_, _, rfl, rfl⟩, _, _, rfl, rfl⟩

/-- ProgramAndVerify, at the first and at the last address. -/
theorem witness_ProgramAndVerify :
    let p : PromPort := { rom := [], option := 0, lock := false, edges := 0, addr := 0, tsel := false, osel := false, data := 0 }
    Memory.romWf p.rom = true ∧
    (∀ a : Addr, a = 0x000#12 ∨ a = 0xFFF#12 →
      ∃ q r out1 out2, p.deselect.clocks .program (addressNibbles a false false ++ dataNibbles 0x7ABC#15) = (q, out1) ∧
        q.deselect.clocks .verify (addressNibbles a false false ++ [0, 0, 0, 0]) = (r, out2)) :=
  ⟨by decide, fun _ _ => ⟨_, _, _, _, rfl, rfl⟩⟩

end Sys2Proof.Tests
end

section
/-! PROOFS. The bounds of the watchdog's time-out on its oscillator (spec/00_scope.md R9, spec/60_exceptions.md R214). -/

namespace Sys2Proof.Machine

/-! ### The bounds of the oscillator's period -/

/-- Every period lasts at least `f.least`: in less time than `k` of them take, fewer than `k` periods fit. -/
theorem oscPeriodsFit.lt_of_lt_least {f : Config.Figure} {us n k : Nat} (h : oscPeriodsFit f us n)
    (hus : us < k * f.least) : n < k :=
  Nat.lt_of_mul_lt_mul_right (h.1.trans_lt hus)

/-- Every period lasts at most `f.greatest`: in the time that `k` such periods take, at least `k` periods fit. -/
theorem oscPeriodsFit.le_of_greatest_le {f : Config.Figure} {us n k : Nat} (h : oscPeriodsFit f us n)
    (hus : k * f.greatest ≤ us) : k ≤ n :=
  Nat.le_of_lt_succ (Nat.lt_of_mul_lt_mul_right (hus.trans_lt h.2))

/-! ### The watchdog on its oscillator -/

@[simp] theorem State.watchdogReset_pc (s : State) : s.watchdogReset.pc = 0x000 := rfl
@[simp] theorem State.watchdogReset_flagTO (s : State) : s.watchdogReset.flagTO = true := rfl

/-- OP13 = 0 and OP12 = 0: in normal operation the watchdog counts oscillator periods up to its limit. -/
theorem State.runWatchdog_of_oscillator {s : State} (hon : s.wdtDisabled = false) (hosc : s.wdtOnInstructionClock = false)
    (n : Nat) :
    s.runWatchdog n = if s.wdtLimit ≤ s.wdt + n then s.watchdogReset else { s with wdt := s.wdt + n } := by
  simp [State.runWatchdog, hon, hosc]

/-- OP13 = 0 and OP12 = 0: in HALT the watchdog times out at the same count (R216, R219). -/
theorem State.sleepTimeOut_of_oscillator {s : State} (hon : s.wdtDisabled = false) (hosc : s.wdtOnInstructionClock = false)
    (n : Nat) : s.sleepTimeOut n = decide (s.wdtLimit ≤ s.wdt + n) := by
  simp [State.sleepTimeOut, hon, hosc]

/-- Settles O51: the bounds of the period bound the count of periods, and the count decides the time-out. -/
theorem oscillatorTimeOutBounds : Obligations.OscillatorTimeOutBounds := by
  intro s part v f us n _ hon hosc hfit
  rw [State.runWatchdog_of_oscillator hon hosc, State.sleepTimeOut_of_oscillator hon hosc]
  constructor
  · intro hus
    have hbelow : ¬ s.wdtLimit ≤ s.wdt + n := Nat.not_le_of_lt (hfit.lt_of_lt_least hus)
    exact ⟨if_neg hbelow, decide_eq_false hbelow⟩
  · intro hus
    have hreached : s.wdtLimit ≤ s.wdt + n := hfit.le_of_greatest_le hus
    simp [hreached]

end Sys2Proof.Machine
end

section
/-! PROOFS. The invariant of the machine is kept by every step (spec/60_exceptions.md R201): first what every operation of an
instruction keeps, then instructions, resets, the end of a step, sleep, and the step. -/

namespace Sys2Proof.Machine

/-! ### What the operations of an instruction keep -/

/-- A timer that is off measures nothing (60_exceptions.md R224). -/
def Timer.IdleWhenOff {w : Nat} (t : Timer w) : Prop := t.ton = false → t.phase = .idle

/-- What every instruction but HALT keeps, and each operation it is made of: the parts of the invariant that do not wait for
the devices' update, and the HALT state. -/
structure OperationKeeps (s t : State) : Prop where
  ram : Memory.wf s.ram = true → Memory.wf t.ram = true
  rom : t.rom = s.rom
  opt : t.opt = s.opt
  timer0 : s.tmr0.IdleWhenOff → t.tmr0.IdleWhenOff
  timer1 : s.tmr1.IdleWhenOff → t.tmr1.IdleWhenOff
  halted : t.halted = s.halted
  draws : s.draws ≤ t.draws
  ramDraw : t.ramDraw = s.ramDraw

theorem OperationKeeps.trans {r s t : State} (h : OperationKeeps r s) (g : OperationKeeps s t) : OperationKeeps r t :=
  ⟨g.ram ∘ h.ram, g.rom.trans h.rom, g.opt.trans h.opt, g.timer0 ∘ h.timer0, g.timer1 ∘ h.timer1,
    g.halted.trans h.halted, h.draws.trans g.draws, g.ramDraw.trans h.ramDraw⟩

/-- An update of other fields keeps all of it. -/
theorem OperationKeeps.of_sameFields {s t : State} (ram : t.ram = s.ram := by rfl) (rom : t.rom = s.rom := by rfl)
    (opt : t.opt = s.opt := by rfl) (ton0 : t.tmr0.ton = s.tmr0.ton := by rfl)
    (phase0 : t.tmr0.phase = s.tmr0.phase := by rfl) (ton1 : t.tmr1.ton = s.tmr1.ton := by rfl)
    (phase1 : t.tmr1.phase = s.tmr1.phase := by rfl) (halted : t.halted = s.halted := by rfl)
    (draws : t.draws = s.draws := by rfl) (ramDraw : t.ramDraw = s.ramDraw := by rfl) : OperationKeeps s t where
  ram h := by rw [ram, h]
  rom := rom
  opt := opt
  timer0 h := by unfold Timer.IdleWhenOff; rw [ton0, phase0]; exact h
  timer1 h := by unfold Timer.IdleWhenOff; rw [ton1, phase1]; exact h
  halted := halted
  draws := draws.ge
  ramDraw := ramDraw

/-- What is kept on the way to `u` is kept by the meaning that answers `u`. -/
theorem OperationKeeps.of_next {s t u : State} (hu : OperationKeeps s u) (h : (.next u : Result) = .next t) :
    OperationKeeps s t := Host.Outcome.next.inj h ▸ hu

theorem State.fetched_keeps (s : State) : OperationKeeps s s.fetched := .of_sameFields

theorem State.afterRead_keeps (s : State) (m : Byte) : OperationKeeps s (s.afterRead m) := .of_sameFields

theorem State.setFlags_keeps (s : State) (f : FlagUpdate) : OperationKeeps s (s.setFlags f) := .of_sameFields

theorem State.setFlagsOfStatus_keeps (s : State) (f : FlagUpdate) : OperationKeeps s (s.setFlagsOfStatus f) :=
  ⟨id, rfl, rfl, id, id, rfl, Nat.le_succ _, rfl⟩

theorem State.toAcc_keeps (s : State) (r : AluResult) : OperationKeeps s (s.toAcc r) := .of_sameFields

theorem State.skipIf_keeps (s : State) (skip : Bool) : OperationKeeps s (s.skipIf skip) := .of_sameFields

theorem State.jumpTo_keeps (s : State) (a : Addr) : OperationKeeps s (s.jumpTo a) := .of_sameFields

theorem State.clearWatchdog_keeps (s : State) : OperationKeeps s s.clearWatchdog := .of_sameFields

theorem State.push_keeps (s : State) (v : Addr) : OperationKeeps s (s.push v) := by
  rw [State.push_eq]; exact .of_sameFields

/-- Software that turns a timer off makes its pulse width measurement idle. -/
theorem Timer.writeControl_idleWhenOff {w : Nat} (t : Timer w) (v : Byte) : (t.writeControl v).IdleWhenOff := by
  intro hoff
  rw [Timer.writeControl_phase, show v.getLsbD 4 = false from hoff]
  rfl

/-- A write of any data cell: only the timers' control registers and RAM are in question. -/
theorem State.cellWrite_keeps (s : State) (c v : Byte) (hram : Memory.wf s.ram = true → Memory.wf (s.cellWrite c v).ram = true) :
    OperationKeeps s (s.cellWrite c v) where
  ram := hram
  rom := by simp
  opt := by simp
  timer0 h := by
    rw [State.cellWrite_tmr0]
    split
    · exact h
    · split
      · exact s.tmr0.writeControl_idleWhenOff v
      · exact h
  timer1 h := by
    rw [State.cellWrite_tmr1]
    split
    · exact h
    · split
      · exact s.tmr1.writeControl_idleWhenOff v
      · exact h
  halted := by simp
  draws := by simp
  ramDraw := by simp

theorem State.memWrite_keeps (s : State) (m v : Byte) : OperationKeeps s (s.memWrite m v) := by
  have hram := State.memWrite_wf (s := s) m v
  cases hm : s.resolve m with
  | none => rw [State.memWrite_of_none hm]; exact .of_sameFields
  | some c => rw [State.memWrite_of_some hm] at hram ⊢; exact s.cellWrite_keeps c v hram

theorem State.toMem_keeps (s : State) (m : Byte) (r : AluResult) : OperationKeeps s (s.toMem m r) := by
  unfold State.toMem
  split
  · exact (s.memWrite_keeps m r.value).trans (State.setFlagsOfStatus_keeps _ _)
  · exact (s.memWrite_keeps m r.value).trans (State.setFlags_keeps _ _)

theorem State.memToAcc_keeps (s : State) (m : Byte) (op : Byte → Byte → AluResult) : OperationKeeps s (s.memToAcc m op) :=
  (s.fetched_keeps.trans (State.afterRead_keeps _ m)).trans (State.toAcc_keeps _ _)

theorem State.memToMem_keeps (s : State) (m : Byte) (op : Byte → Byte → AluResult) : OperationKeeps s (s.memToMem m op) :=
  (s.fetched_keeps.trans (State.afterRead_keeps _ m)).trans (State.toMem_keeps _ _ _)

theorem State.immToAcc_keeps (s : State) (x : Byte) (op : Byte → Byte → AluResult) : OperationKeeps s (s.immToAcc x op) :=
  s.fetched_keeps.trans (State.toAcc_keeps _ _)

theorem State.storeFetched_keeps (s : State) (m v : Byte) : OperationKeeps s (s.fetched.memWrite m v) :=
  s.fetched_keeps.trans (State.memWrite_keeps _ m v)

theorem State.testAndSkip_keeps (s : State) (m : Byte) (skip : Bool) :
    OperationKeeps s ((s.fetched.afterRead m).skipIf skip) :=
  (s.fetched_keeps.trans (State.afterRead_keeps _ m)).trans (State.skipIf_keeps _ skip)

theorem State.accAndSkip_keeps (s : State) (m : Byte) (op : Byte → Byte) : OperationKeeps s (s.accAndSkip m op) := .of_sameFields

theorem State.updateAndSkip_keeps {s t : State} {m : Byte} {op : Byte → Byte} (h : s.updateAndSkip m op = .next t) :
    OperationKeeps s t := by
  unfold State.updateAndSkip at h
  split at h
  · exact nomatch h
  · exact (((s.fetched_keeps.trans (State.afterRead_keeps _ m)).trans (State.memWrite_keeps _ m _)).trans
      (State.skipIf_keeps _ _)).of_next h

/-- Everything a return that is no fault can do (44_branch.md R166): the stack was not empty, and its top is the new program
counter. -/
theorem State.returnWith_inv {s t : State} {also : State → State} (h : s.returnWith also = .next t) :
    s.sp ≠ 0 ∧ ∃ a, s.top = some a ∧ t = also { s.fetched with sp := s.sp - 1, pc := a, cyc := 2 } := by
  by_cases hsp : s.sp = 0
  · rw [State.returnWith_empty also hsp] at h; exact nomatch h
  · obtain ⟨a, htop, hnext⟩ := State.returnWith_next also hsp
    exact ⟨hsp, a, htop, Host.Outcome.next.inj (h.symm.trans hnext)⟩

theorem State.returnWith_keeps {s t : State} {also : State → State} (halso : ∀ u, OperationKeeps u (also u))
    (h : s.returnWith also = .next t) : OperationKeeps s t := by
  obtain ⟨-, a, -, rfl⟩ := State.returnWith_inv h
  have popped : OperationKeeps s { s.fetched with sp := s.sp - 1, pc := a, cyc := 2 } :=
    .of_sameFields
  exact popped.trans (halso _)

theorem State.tableRead_keeps (s : State) (m : Byte) (a : Addr) : OperationKeeps s (s.tableRead m a) := by
  have started : OperationKeeps s { s.fetched with cyc := 2 } := .of_sameFields
  have stored := started.trans (State.memWrite_keeps _ m ((s.progRead a).extractLsb' 0 8))
  exact stored.trans .of_sameFields

theorem State.afterDaaPick_keeps (s : State) : OperationKeeps s s.afterDaaPick := by
  refine ⟨id, rfl, rfl, id, id, rfl, ?_, rfl⟩
  unfold State.afterDaaPick
  dsimp only
  split
  · exact Nat.le_succ _
  · exact le_rfl

theorem State.preclear_keeps {s : State} {other : Bool} {setOwn : State → State} (hown : ∀ u, OperationKeeps u (setOwn u)) :
    OperationKeeps s (s.preclear other setOwn) := by
  unfold State.preclear
  split
  · exact s.fetched_keeps
  · split
    · exact .of_sameFields
    · exact s.fetched_keeps.trans (hown _)

/-! ### Instructions -/

/-- No instruction but HALT touches the HALT state, and none touches the PROMs or spoils a canonical form. -/
theorem exec_keeps {i : Instr} {s t : State} (hi : i ≠ .halt) (h : exec i s = .next t) : OperationKeeps s t := by
  cases i
  case halt => exact absurd rfl hi
  case addAM m | adcAM m | subAM m | sbcAM m | andAM m | orAM m | xorAM m | cplaM m | incaM m | decaM m | rraM m | rrcaM m
      | rlaM m | rlcaM m | movAM m | swapaM m =>
    exact (s.memToAcc_keeps m _).of_next h
  case addmAM m | adcmAM m | submAM m | sbcmAM m | andmAM m | ormAM m | xormAM m | cplM m | incM m | decM m | rrM m
      | rrcM m | rlM m | rlcM m | swapM m =>
    exact (s.memToMem_keeps m _).of_next h
  case clrMI m k | setMI m k => exact (s.memToMem_keeps m _).of_next h
  case addAX x | subAX x | andAX x | orAX x | xorAX x | movAX x => exact (s.immToAcc_keeps x _).of_next h
  case daaM m =>
    exact ((s.fetched_keeps.trans (State.afterDaaPick_keeps _)).trans (State.toMem_keeps _ m _)).of_next h
  case movMA m | clrM m | setM m => exact (s.storeFetched_keeps m _).of_next h
  case szM m => exact (s.testAndSkip_keeps m _).of_next h
  case szMI m k | snzMI m k => exact (s.testAndSkip_keeps m _).of_next h
  case szaM m | sizaM m | sdzaM m => exact (s.accAndSkip_keeps m _).of_next h
  case sizM m => exact State.updateAndSkip_keeps (op := (· + 1)) h
  case sdzM m => exact State.updateAndSkip_keeps (op := (· - 1)) h
  case jmp a => exact (s.fetched_keeps.trans (State.jumpTo_keeps _ a)).of_next h
  case call a => exact ((s.fetched_keeps.trans (State.push_keeps _ _)).trans (State.jumpTo_keeps _ a)).of_next h
  case ret => exact State.returnWith_keeps (also := id) (fun _ => .of_sameFields) h
  case retAX x =>
    exact State.returnWith_keeps (also := fun u => { u with acc := x }) (fun _ => .of_sameFields) h
  case reti =>
    exact State.returnWith_keeps (also := fun u => { u with emi := true }) (fun _ => .of_sameFields) h
  case tabrdcM m | tabrdlM m => exact (s.tableRead_keeps m _).of_next h
  case nop => exact s.fetched_keeps.of_next h
  case clrWdt =>
    refine OperationKeeps.of_next ?_ h
    split
    · exact s.fetched_keeps
    · exact s.fetched_keeps.trans (State.clearWatchdog_keeps _)
  case clrWdt1 =>
    exact (State.preclear_keeps (setOwn := fun u => { u with wf1 := true })
      fun _ => .of_sameFields).of_next h
  case clrWdt2 =>
    exact (State.preclear_keeps (setOwn := fun u => { u with wf2 := true })
      fun _ => .of_sameFields).of_next h

/-! ### The invariant within a step -/

/-- What holds of every state within a step too, before the devices' update restores the rest of the invariant. -/
structure MidInvariant (s : State) : Prop where
  ramCanonical : Memory.wf s.ram = true
  romCanonical : Memory.romWf s.rom = true
  optionsLegal : s.badOption = false
  timer0Idle : s.tmr0.IdleWhenOff
  timer1Idle : s.tmr1.IdleWhenOff
  haltFlags : s.halted = true → s.flagPD = true ∧ s.flagTO = false
  freshDraw : s.ramDraw < s.draws

theorem Invariant.mid {s : State} (h : Invariant s) : MidInvariant s :=
  ⟨h.ramCanonical, h.romCanonical, h.optionsLegal, h.timer0Idle, h.timer1Idle, h.haltFlags, h.freshDraw⟩

/-- An operation of a machine that is awake keeps it: TO and PD are free to change. -/
theorem MidInvariant.of_keeps {s t : State} (h : MidInvariant s) (hawake : s.halted = false) (k : OperationKeeps s t) :
    MidInvariant t where
  ramCanonical := k.ram h.ramCanonical
  romCanonical := k.rom ▸ h.romCanonical
  optionsLegal := by simpa [State.badOption, k.opt] using h.optionsLegal
  timer0Idle := k.timer0 h.timer0Idle
  timer1Idle := k.timer1 h.timer1Idle
  haltFlags e := by rw [k.halted, hawake] at e; exact nomatch e
  freshDraw := k.ramDraw ▸ h.freshDraw.trans_le k.draws

theorem MidInvariant.of_devices {s t : State} (h : MidInvariant s) (d : DevicesMoved s t) : MidInvariant t := by
  rw [d.same]
  exact ⟨h.ramCanonical, h.romCanonical, h.optionsLegal, d.timer0.idle h.timer0Idle, d.timer1.idle h.timer1Idle,
    h.haltFlags, h.freshDraw⟩

theorem MidInvariant.of_exec {i : Instr} {s t : State} (h : MidInvariant s) (hawake : s.halted = false)
    (he : exec i s = .next t) : MidInvariant t := by
  by_cases hi : i = .halt
  · subst hi
    obtain rfl := Host.Outcome.next.inj he
    exact ⟨h.ramCanonical, h.romCanonical, h.optionsLegal, h.timer0Idle, h.timer1Idle, fun _ => ⟨rfl, rfl⟩, h.freshDraw⟩
  · exact h.of_keeps hawake (exec_keeps hi he)

theorem State.interruptEntry_keeps (s : State) (k : Source) : OperationKeeps s (s.interruptEntry k) := by
  rw [State.interruptEntry_eq, State.push_eq]
  exact .of_sameFields

/-! ### Resets -/

theorem State.wdtLimit_pos (s : State) : 0 < s.wdtLimit := by unfold State.wdtLimit; positivity

/-- A machine whose timers are off and whose watchdog has just been cleared has the whole invariant. -/
theorem Invariant.of_timersOff {s : State} (h : MidInvariant s) (hoff0 : s.tmr0.ton = false) (hoff1 : s.tmr1.ton = false)
    (hclock0 : s.tmr0.blocked = false) (hclock1 : s.tmr1.blocked = false) (hwdt : s.wdt = 0) : Invariant s :=
  ⟨h.ramCanonical, h.romCanonical, h.optionsLegal, by simp [Timer.onInUnusedMode, hoff0],
    by simp [Timer.onInUnusedMode, hoff1], h.timer0Idle, h.timer1Idle, hclock0, hclock1, .inr (hwdt ▸ s.wdtLimit_pos),
    h.haltFlags, h.freshDraw⟩

/-- (2) WDT time-out in normal operation. -/
theorem State.watchdogReset_invariant {s : State} (h : MidInvariant s) : Invariant s.watchdogReset :=
  .of_timersOff ⟨h.ramCanonical, h.romCanonical, h.optionsLegal, fun _ => rfl, fun _ => rfl, nofun,
    Nat.lt_succ_of_lt h.freshDraw⟩ rfl rfl rfl rfl rfl

/-- (3) and (4) RES reset, in normal operation and in HALT. -/
theorem State.resReset_invariant {s : State} (h : MidInvariant s) : Invariant s.resReset := by
  unfold State.resReset
  split <;>
    exact .of_timersOff ⟨h.ramCanonical, h.romCanonical, h.optionsLegal, fun _ => rfl, fun _ => rfl, nofun,
      Nat.lt_succ_of_lt h.freshDraw⟩ rfl rfl rfl rfl rfl

/-- (1) Power-on: RAM is new, and so is the number of its draw. -/
theorem State.powerOn_invariant {s : State} (h : MidInvariant s) : Invariant s.powerOn :=
  .of_timersOff ⟨rfl, h.romCanonical, h.optionsLegal, fun _ => rfl, fun _ => rfl, nofun, Nat.lt_succ_self _⟩
    rfl rfl rfl rfl rfl

/-- (5) WDT time-out in HALT: the warm reset leaves the timers' modes as they are. -/
theorem State.warmReset_invariant {s : State} (h : MidInvariant s) (hmode0 : s.tmr0.onInUnusedMode = false)
    (hmode1 : s.tmr1.onInUnusedMode = false) : Invariant s.warmReset :=
  ⟨h.ramCanonical, h.romCanonical, h.optionsLegal, hmode0, hmode1, h.timer0Idle, h.timer1Idle, rfl, rfl,
    .inr s.wdtLimit_pos, nofun, Nat.lt_succ_of_lt h.freshDraw⟩

/-- The levels on the pads are no part of the invariant. -/
theorem State.padsBecome_invariant {s : State} (h : Invariant s) (l : List Pads) : Invariant (s.padsBecome l) :=
  ⟨h.ramCanonical, h.romCanonical, h.optionsLegal, h.timer0Mode, h.timer1Mode, h.timer0Idle, h.timer1Idle, h.timer0Clock,
    h.timer1Clock, h.watchdogBelow, h.haltFlags, h.freshDraw⟩

/-- Nor are the coming inputs. -/
theorem State.inputTaken_invariant {s : State} (h : Invariant s) : Invariant s.inputTaken :=
  ⟨h.ramCanonical, h.romCanonical, h.optionsLegal, h.timer0Mode, h.timer1Mode, h.timer0Idle, h.timer1Idle, h.timer0Clock,
    h.timer1Clock, h.watchdogBelow, h.haltFlags, h.freshDraw⟩

/-! ### The end of a step -/

/-- The devices' update gives back what an instruction may have broken: it refuses the unused mode, ends the blocking of the
counters' clocks, and resets the chip where the watchdog has reached its time-out. -/
theorem State.finish_invariant {s t before : State} {inp : Input} (h : MidInvariant s)
    (hf : s.finish inp before = .next t) : Invariant t := by
  obtain ⟨hmode0, hmode1, rfl⟩ := State.finish_next hf
  generalize (before.tmr0.ton && s.tmr0.ton) = run0
  generalize (before.tmr1.ton && s.tmr1.ton) = run1
  have moved := s.timePassed_moved inp run0 run1
  have mid := h.of_devices moved
  have mode0 := moved.timer0.onInUnusedMode hmode0
  have mode1 := moved.timer1.onInUnusedMode hmode1
  obtain ⟨heq, hoff⟩ | ⟨heq, -⟩ | ⟨n, heq, -, hbelow⟩ := State.runWatchdog_cases (s.timePassed inp run0 run1) inp.runOsc
  · rw [heq]
    exact ⟨mid.ramCanonical, mid.romCanonical, mid.optionsLegal, mode0, mode1, mid.timer0Idle, mid.timer1Idle, rfl, rfl,
      .inl hoff, mid.haltFlags, mid.freshDraw⟩
  · rw [heq]; exact State.watchdogReset_invariant mid
  · rw [heq]
    exact ⟨mid.ramCanonical, mid.romCanonical, mid.optionsLegal, mode0, mode1, mid.timer0Idle, mid.timer1Idle, rfl, rfl,
      .inr hbelow, mid.haltFlags, mid.freshDraw⟩

/-- An interrupt entry, or an instruction, of a machine that is awake. -/
theorem State.runCycle_invariant {s t : State} {e : Encoding} {inp : Input} (h : MidInvariant s) (hawake : s.halted = false)
    (hr : s.runCycle e inp = .next t) : Invariant t := by
  unfold State.runCycle at hr
  split at hr
  · exact State.finish_invariant (h.of_keeps hawake (s.interruptEntry_keeps _)) hr
  · split at hr
    · exact nomatch hr
    · split at hr
      · next hexec => exact State.finish_invariant (h.of_exec hawake hexec) hr
      · exact nomatch hr
      · exact nomatch hr

/-! ### Sleep -/

/-- Where the watchdog does not time out in HALT, what it has counted is below the time-out. -/
theorem State.sleepCount_below {s : State} {osc : Nat} (h : s.wdtDisabled = true ∨ s.wdt < s.wdtLimit)
    (hno : s.sleepTimeOut osc = false) : s.wdtDisabled = true ∨ s.wdt + s.sleepCount osc < s.wdtLimit := by
  refine h.imp_right fun hbelow => ?_
  unfold State.sleepCount
  split
  · exact hbelow
  · next hcounts => simpa [State.sleepTimeOut, Bool.or_eq_false_iff.1 (Bool.eq_false_iff.2 hcounts)] using hno

/-- The machine sleeps on. -/
theorem State.slept_invariant {s : State} {inp : Input} (h : Invariant s) (hno : s.sleepTimeOut inp.sleepOsc = false) :
    Invariant (s.slept inp) := by
  have moved := State.sleepThrough_moved inp.sleepPads s
  have mid := h.mid.of_devices moved
  have clock0 := mt moved.timer0.blocked (by simp [h.timer0Clock])
  have clock1 := mt moved.timer1.blocked (by simp [h.timer1Clock])
  have below := State.sleepCount_below h.watchdogBelow hno
  refine ⟨mid.ramCanonical, mid.romCanonical, mid.optionsLegal, moved.timer0.onInUnusedMode h.timer0Mode,
    moved.timer1.onInUnusedMode h.timer1Mode, mid.timer0Idle, mid.timer1Idle, Bool.eq_false_iff.2 clock0,
    Bool.eq_false_iff.2 clock1, ?_, mid.haltFlags, mid.freshDraw⟩
  unfold State.slept
  rw [moved.same]
  exact below

/-- A step in HALT: the machine sleeps on, is reset, or wakes and runs. -/
theorem State.haltedCycle_invariant {s t : State} {e : Encoding} {inp : Input} (h : Invariant s)
    (hr : s.haltedCycle e inp = .next t) : Invariant t := by
  unfold State.haltedCycle at hr
  split at hr
  · exact nomatch hr
  have moved := State.sleepThrough_moved inp.sleepPads s
  split at hr
  · obtain rfl := Host.Outcome.next.inj hr
    exact State.warmReset_invariant (h.mid.of_devices moved) (moved.timer0.onInUnusedMode h.timer0Mode)
      (moved.timer1.onInUnusedMode h.timer1Mode)
  next hno =>
  have slept := State.slept_invariant h (Bool.eq_false_iff.2 hno)
  split at hr
  · exact State.runCycle_invariant (s := (s.slept inp).wakeUp) ⟨slept.ramCanonical, slept.romCanonical, slept.optionsLegal,
      slept.timer0Idle, slept.timer1Idle, nofun, slept.freshDraw⟩ rfl hr
  · exact Host.Outcome.next.inj hr ▸ slept

/-! ### The step -/

/-- A step keeps the invariant whatever the encoding of its words is (00_scope.md R10). -/
theorem State.cycle_invariant {s t : State} {e : Encoding} (h : Invariant s) (hc : s.cycle e = .next t) : Invariant t := by
  have taken := State.inputTaken_invariant h
  unfold State.cycle at hc
  split at hc
  · exact nomatch hc
  split at hc
  · exact Host.Outcome.next.inj hc ▸ State.padsBecome_invariant (State.powerOn_invariant taken.mid) _
  split at hc
  · exact Host.Outcome.next.inj hc ▸ State.padsBecome_invariant (State.resReset_invariant taken.mid) _
  split at hc
  · exact State.haltedCycle_invariant taken hc
  · next hawake => exact State.runCycle_invariant taken.mid (Bool.eq_false_iff.2 hawake) hc

/-- Settles O8: instructions keep `MidInvariant`, and the devices' update at the end of the step, a reset, or sleep restores
the whole invariant. -/
theorem stepKeepsInvariant : Obligations.StepKeepsInvariant :=
  fun _ _ h hstep => State.cycle_invariant h hstep

end Sys2Proof.Machine
end

section
/-! PROOFS. The stack as a list of return addresses (spec/10_state.md R25 to R27): what CALL and RET do to it, four calls with
their returns, and the interrupts that a return lets in. -/

namespace Sys2Proof.Machine

/-! ### The stack as a list -/

/-- The return addresses the stack holds, the most recent first (10_state.md R25). -/
def State.returnAddresses (s : State) : List Addr :=
  match s.sp with
  | 0 => []
  | 1 => [s.stk0]
  | 2 => [s.stk1, s.stk0]
  | 3 => [s.stk2, s.stk1, s.stk0]
  | 4 => [s.stk3, s.stk2, s.stk1, s.stk0]

/-- A push keeps the four most recent addresses (10_state.md R26). -/
theorem State.returnAddresses_push (s : State) (v : Addr) :
    (s.push v).returnAddresses = (v :: s.returnAddresses).take 4 := by
  unfold State.push
  split <;> next h => simp [State.returnAddresses, h]

/-- A return goes to the head of the list (10_state.md R27). -/
theorem State.top_eq_head? (s : State) : s.top = s.returnAddresses.head? := by
  unfold State.top
  split <;> next h => simp [State.returnAddresses, h]

/-- A pop leaves the tail of the list (10_state.md R27). -/
theorem State.returnAddresses_dropTop (s : State) : s.dropTop.returnAddresses = s.returnAddresses.tail := by
  match h : s.sp with
  | 0 | 1 | 2 | 3 | 4 => simp [State.returnAddresses, State.dropTop, h]

/-! ### CALL and RET -/

/-- `CALL addr` (44_branch.md R165). -/
theorem exec_call_returnAddresses {s t : State} {a : Addr} (h : exec (.call a) s = .next t) :
    t.pc = a ∧ t.returnAddresses = ((s.pc + 1) :: s.returnAddresses).take 4 := by
  obtain rfl := Host.Outcome.next.inj h
  exact ⟨rfl, State.returnAddresses_push s.fetched s.fetched.pc⟩

/-- `RET` (44_branch.md R166). -/
theorem exec_ret_of_returnAddresses {s : State} {a : Addr} {rest : List Addr} (h : s.returnAddresses = a :: rest) :
    ∃ u, exec .ret s = .next u ∧ u.pc = a ∧ u.returnAddresses = rest := by
  have top : s.top = some a := by rw [State.top_eq_head?, h]; rfl
  refine ⟨s.dropTop.fetched.jumpTo a, ?_, rfl, ?_⟩
  · show s.returnWith id = _
    simp [State.returnWith, top]
  · show s.dropTop.returnAddresses = rest
    rw [State.returnAddresses_dropTop, h]; rfl

/-- Settles O40: four calls leave exactly their own four addresses in the list, and each return takes one off. -/
theorem fourCallsReturnInOrder : Obligations.FourCallsReturnInOrder := by
  intro s t1 t2 t3 t4 a1 a2 a3 a4 h1 h2 h3 h4
  obtain ⟨pc1, stack1⟩ := exec_call_returnAddresses h1
  obtain ⟨pc2, stack2⟩ := exec_call_returnAddresses h2
  obtain ⟨pc3, stack3⟩ := exec_call_returnAddresses h3
  obtain ⟨-, stack4⟩ := exec_call_returnAddresses h4
  have four : t4.returnAddresses = [a3 + 1, a2 + 1, a1 + 1, s.pc + 1] := by
    simp [stack4, stack3, stack2, stack1, pc1, pc2, pc3]
  obtain ⟨u1, ret1, to1, left1⟩ := exec_ret_of_returnAddresses four
  obtain ⟨u2, ret2, to2, left2⟩ := exec_ret_of_returnAddresses left1
  obtain ⟨u3, ret3, to3, left3⟩ := exec_ret_of_returnAddresses left2
  obtain ⟨u4, ret4, to4, -⟩ := exec_ret_of_returnAddresses left3
  exact ⟨u1, u2, u3, u4, ret1, to1, ret2, to2, ret3, to3, ret4, to4⟩

/-! ### What holds an interrupt back -/

/-- The source that would be acknowledged with EMI set and room on the stack. -/
def State.wanted (s : State) : Option Source := State.acknowledged { s with emi := true, sp := 0 }

/-- EMI and room on the stack let in the source that is wanted; nothing else does (60_exceptions.md R189, R191). -/
theorem State.acknowledged_eq (s : State) : s.acknowledged = if s.emi = true ∧ s.sp ≠ 4 then s.wanted else none := by
  split
  · next h => simp [State.wanted, State.acknowledged, State.canAcknowledge, h.1, h.2]
  · next h =>
    cases hemi : s.emi with
    | false => simp [State.acknowledged, State.canAcknowledge, hemi]
    | true =>
      have hfull : s.sp = 4 := by simpa [hemi] using h
      simp [State.acknowledged, State.canAcknowledge, hfull]

/-- A level given up leaves room on the stack (10_state.md R28). -/
theorem stackDepth_pred_ne_full : ∀ sp : Fin 5, sp ≠ 0 → sp - 1 ≠ 4 := by decide

/-- After a return only EMI can hold back what is wanted. `emi` says what the return does to EMI. -/
theorem State.returnWith_acknowledged {s t : State} {also : State → State} (emi : Bool → Bool)
    (hemi : ∀ u, (also u).emi = emi u.emi) (hsp : ∀ u, (also u).sp = u.sp) (hwanted : ∀ u, (also u).wanted = u.wanted)
    (h : s.returnWith also = .next t) : t.acknowledged = if emi s.emi = true then s.wanted else none := by
  obtain ⟨hne, a, -, rfl⟩ := State.returnWith_inv h
  have room : s.sp - 1 ≠ 4 := stackDepth_pred_ne_full s.sp hne
  rw [State.acknowledged_eq, hemi, hsp, hwanted]
  exact if_congr (and_iff_left room) rfl rfl

/-- RET and RET A,x leave EMI as it is (44_branch.md R166, R167). -/
theorem exec_ret_acknowledged {i : Instr} {s t : State} (hi : i = .ret ∨ ∃ x, i = .retAX x) (h : exec i s = .next t) :
    t.acknowledged = if s.emi = true then s.wanted else none := by
  obtain rfl | ⟨x, rfl⟩ := hi
  · exact State.returnWith_acknowledged (also := id) id (fun _ => rfl) (fun _ => rfl) (fun _ => rfl) h
  · exact State.returnWith_acknowledged (also := fun u => { u with acc := x }) id (fun _ => rfl) (fun _ => rfl)
      (fun _ => rfl) h

/-- RETI sets EMI (44_branch.md R168). -/
theorem exec_reti_acknowledged {s t : State} (h : exec .reti s = .next t) : t.acknowledged = s.wanted :=
  State.returnWith_acknowledged (also := fun u => { u with emi := true }) (fun _ => true) (fun _ => rfl) (fun _ => rfl)
    (fun _ => rfl) h

/-- Settles O46: a return makes room on the stack, and only RETI sets EMI. -/
theorem returnsReleaseInterrupts : Obligations.ReturnsReleaseInterrupts := by
  intro s t k hwanted
  refine ⟨fun held => ?_, fun i hi h => ⟨fun hemi => ?_, fun hemi => ?_⟩, fun h => ?_⟩
  · rw [State.acknowledged_eq, if_neg]
    rintro ⟨hemi, hroom⟩
    obtain hfull | hoff := held
    · exact hroom (Fin.ext hfull)
    · exact Bool.false_ne_true (hoff.symm.trans hemi)
  · rw [exec_ret_acknowledged hi h, if_pos hemi]; exact hwanted
  · rw [exec_ret_acknowledged hi h, if_neg (Bool.eq_false_iff.1 hemi)]
  · rw [exec_reti_acknowledged h]; exact hwanted

end Sys2Proof.Machine
end

section
/-! PROOFS. The low byte buffer of timer/event counter 0 (spec/10_state.md R41; spec/60_exceptions.md R226, R227): TMR0H and
TMR0L as two halves of one 16-bit value. -/

namespace Sys2Proof.Machine

/-! ### Reading -/

/-- Reading TMR0H gives the high byte of the count and latches the low byte (20_memory.md R63). -/
theorem exec_movA_tmr0h {s t : State} (h : exec (.movAM 0x0C#8) s = .next t) :
    t.acc = s.tmr0.cnt.extractLsb' 8 8 ∧ t.lowbuf0 = s.tmr0.cnt.extractLsb' 0 8 := by
  obtain rfl := Host.Outcome.next.inj h
  exact ⟨rfl, rfl⟩

/-- Reading TMR0L gives the low byte buffer, whatever the count is. -/
theorem exec_movA_tmr0l {s t : State} (h : exec (.movAM 0x0D#8) s = .next t) : t.acc = s.lowbuf0 := by
  obtain rfl := Host.Outcome.next.inj h
  rfl

/-! ### Writing -/

/-- Writing TMR0L fills the low byte buffer and leaves the timer alone (20_memory.md R64). -/
theorem exec_mov_tmr0l {s t : State} (h : exec (.movMA 0x0D#8) s = .next t) :
    t.lowbuf0 = s.acc ∧ t.tmr0 = { s.tmr0 with blocked := false } := by
  obtain rfl := Host.Outcome.next.inj h
  exact ⟨rfl, rfl⟩

/-- Writing TMR0H writes ACC and the low byte buffer to the preload register. -/
theorem exec_mov_tmr0h {s t : State} (h : exec (.movMA 0x0C#8) s = .next t) :
    t.tmr0 = { s.tmr0 with blocked := false }.writePreload (s.acc ++ s.lowbuf0) := by
  obtain rfl := Host.Outcome.next.inj h
  rfl

/-- A high and a low byte make the 16-bit value that has them as its two bytes. -/
theorem toNat_append_byte (hi lo : Byte) : (hi ++ lo).toNat = 256 * hi.toNat + lo.toNat := by
  have := lo.isLt
  rw [BitVec.toNat_append, ← Nat.shiftLeft_add_eq_or_of_lt this, Nat.shiftLeft_eq]
  omega

/-- Settles O59: the buffer carries the low byte from the one instruction to the other. -/
theorem lowByteBuffer : Obligations.LowByteBuffer := by
  refine ⟨fun s t t' u hhigh hkept hlow => ?_, fun s t t' u hlow hkept hhigh => ?_⟩
  · obtain ⟨high, latched⟩ := exec_movA_tmr0h hhigh
    have low : u.acc = s.tmr0.cnt.extractLsb' 0 8 := (exec_movA_tmr0l hlow).trans (hkept.trans latched)
    have := s.tmr0.cnt.isLt
    simp only [high, low, BitVec.extractLsb'_toNat, Nat.shiftRight_eq_div_pow]
    omega
  · obtain ⟨buffered, timer⟩ := exec_mov_tmr0l hlow
    have buffer : t'.lowbuf0 = s.acc := hkept.trans buffered
    rw [timer, exec_mov_tmr0h hhigh, buffer]
    exact ⟨rfl, rfl, toNat_append_byte _ _, rfl⟩

end Sys2Proof.Machine
end

section
/-! PROOFS. Program memory and the option word are what programming made them: no step changes either (spec/20_memory.md R67,
R71). -/

namespace Sys2Proof.Machine

/-! ### The two PROMs -/

/-- Program memory and the option word are the same. -/
structure SameProms (s t : State) : Prop where
  rom : t.rom = s.rom
  opt : t.opt = s.opt

theorem SameProms.trans {r s t : State} (h : SameProms r s) (g : SameProms s t) : SameProms r t :=
  ⟨g.rom.trans h.rom, g.opt.trans h.opt⟩

theorem OperationKeeps.sameProms {s t : State} (h : OperationKeeps s t) : SameProms s t := ⟨h.rom, h.opt⟩

theorem DevicesMoved.sameProms {s t : State} (h : DevicesMoved s t) : SameProms s t := by
  rw [h.same]; exact ⟨rfl, rfl⟩

/-! ### What a step is made of -/

theorem exec_sameProms {i : Instr} {s t : State} (h : exec i s = .next t) : SameProms s t := by
  by_cases hi : i = .halt
  · subst hi
    obtain rfl := Host.Outcome.next.inj h
    exact ⟨rfl, rfl⟩
  · exact (exec_keeps hi h).sameProms

theorem State.runWatchdog_sameProms (s : State) (osc : Nat) : SameProms s (s.runWatchdog osc) := by
  obtain ⟨heq, -⟩ | ⟨heq, -⟩ | ⟨n, heq, -⟩ := s.runWatchdog_cases osc
  all_goals rw [heq]; exact ⟨rfl, rfl⟩

theorem State.finish_sameProms {s t before : State} {inp : Input} (h : s.finish inp before = .next t) : SameProms s t := by
  obtain ⟨-, -, rfl⟩ := State.finish_next h
  exact (s.timePassed_moved inp _ _).sameProms.trans (State.runWatchdog_sameProms _ _)

theorem State.runCycle_sameProms {s t : State} {e : Encoding} {inp : Input} (h : s.runCycle e inp = .next t) :
    SameProms s t := by
  unfold State.runCycle at h
  split at h
  · exact (s.interruptEntry_keeps _).sameProms.trans (State.finish_sameProms h)
  · split at h
    · exact nomatch h
    · split at h
      · next hexec => exact (exec_sameProms hexec).trans (State.finish_sameProms h)
      · exact nomatch h
      · exact nomatch h

theorem State.haltedCycle_sameProms {s t : State} {e : Encoding} {inp : Input} (h : s.haltedCycle e inp = .next t) :
    SameProms s t := by
  have asleep := (State.sleepThrough_moved inp.sleepPads s).sameProms
  have slept : SameProms s (s.slept inp) := asleep.trans ⟨rfl, rfl⟩
  unfold State.haltedCycle at h
  split at h
  · exact nomatch h
  split at h
  · obtain rfl := Host.Outcome.next.inj h
    exact asleep.trans ⟨rfl, rfl⟩
  split at h
  · have woken : SameProms s (s.slept inp).wakeUp := slept.trans ⟨rfl, rfl⟩
    exact woken.trans (State.runCycle_sameProms h)
  · exact Host.Outcome.next.inj h ▸ slept

theorem State.resReset_sameProms (s : State) : SameProms s s.resReset := by
  unfold State.resReset
  split <;> exact ⟨rfl, rfl⟩

/-! ### The step -/

/-- No step changes the PROMs, whatever the encoding of the words is (00_scope.md R10). -/
theorem State.cycle_sameProms {s t : State} {e : Encoding} (h : s.cycle e = .next t) : SameProms s t := by
  have taken : SameProms s s.inputTaken := ⟨rfl, rfl⟩
  unfold State.cycle at h
  split at h
  · exact nomatch h
  split at h
  · obtain rfl := Host.Outcome.next.inj h
    exact ⟨rfl, rfl⟩
  split at h
  · obtain rfl := Host.Outcome.next.inj h
    exact (taken.trans s.inputTaken.resReset_sameProms).trans ⟨rfl, rfl⟩
  split at h
  · exact taken.trans (State.haltedCycle_sameProms h)
  · exact taken.trans (State.runCycle_sameProms h)

/-- Settles O11: instructions, interrupt entries, devices, resets and sleep all leave the PROMs alone. -/
theorem promsNeverChange : Obligations.PromsNeverChange := by
  intro s t hstep
  obtain ⟨rom, opt⟩ := State.cycle_sameProms hstep
  exact ⟨rom, opt⟩

end Sys2Proof.Machine
end

section
/-! PROOFS. Data memory (spec/20_memory.md R62 to R64): where an operand leads, what an address reads as, and what a written
byte reads back as. -/

namespace Sys2Proof.Machine

/-! ### Operand resolution -/

/-- Every address but the two indirect ones names itself (R62). -/
theorem State.resolve_direct (s : State) {m : Byte} (h0 : m ≠ 0x00#8) (h2 : m ≠ 0x02#8) : s.resolve m = some m := by
  rw [State.resolve, if_neg h0, if_neg h2]

theorem State.resolve_indirect0 (s : State) : s.resolve 0x00#8 = throughPointer s.mp0 := rfl

theorem State.resolve_indirect1 (s : State) : s.resolve 0x02#8 = throughPointer s.mp1 := rfl

theorem throughPointer_cell {p : Byte} (h0 : p ≠ 0x00#8) (h2 : p ≠ 0x02#8) : throughPointer p = some p :=
  if_neg (not_or.2 ⟨h0, h2⟩)

/-- There is no double indirection (R62). -/
theorem throughPointer_indirect {p : Byte} (h : p = 0x00#8 ∨ p = 0x02#8) : throughPointer p = none := if_pos h

/-- Two operands that name the same cell read the same byte. -/
theorem State.memRead_congr {s : State} {m n : Byte} (h : s.resolve m = s.resolve n) : s.memRead m = s.memRead n := by
  rw [State.memRead, State.memRead, h]

/-- Two operands that name the same cell are written alike. -/
theorem State.memWrite_congr {s : State} {m n : Byte} (h : s.resolve m = s.resolve n) (v : Byte) :
    s.memWrite m v = s.memWrite n v := by
  rw [State.memWrite, State.memWrite, h]

/-- An indirect operand whose pointer names a cell is that cell. -/
theorem State.indirect_cell {s : State} {m p : Byte} (hm : s.resolve m = throughPointer p) (h0 : p ≠ 0x00#8)
    (h2 : p ≠ 0x02#8) :
    s.resolve m = some p ∧ s.memRead m = s.memRead p ∧ ∀ v, s.memWrite m v = s.memWrite p v := by
  have cell : s.resolve m = some p := hm.trans (throughPointer_cell h0 h2)
  have same : s.resolve m = s.resolve p := cell.trans (s.resolve_direct h0 h2).symm
  exact ⟨cell, State.memRead_congr same, State.memWrite_congr same⟩

/-- An indirect operand whose pointer names an indirect register is no cell. -/
theorem State.indirect_none {s : State} {m p : Byte} (hm : s.resolve m = throughPointer p)
    (hp : p = 0x00#8 ∨ p = 0x02#8) : s.resolve m = none ∧ s.memRead m = 0x00 ∧ ∀ v, s.memWrite m v = s := by
  have noCell : s.resolve m = none := hm.trans (throughPointer_indirect hp)
  exact ⟨noCell, State.memRead_of_none noCell, State.memWrite_of_none noCell⟩

/-- Settles O14: the two indirect addresses differ only in their pointer. -/
theorem operandResolution : Obligations.OperandResolution :=
  ⟨fun s _ h0 h2 => s.resolve_direct h0 h2,
    fun s h0 h2 => State.indirect_cell s.resolve_indirect0 h0 h2,
    fun s h0 h2 => State.indirect_cell s.resolve_indirect1 h0 h2,
    fun s hp => State.indirect_none s.resolve_indirect0 hp,
    fun s hp => State.indirect_none s.resolve_indirect1 hp⟩

/-! ### A byte made of bits -/

/-- The bits of a byte, one after the other. -/
theorem byteOfBits_eq_concat (b7 b6 b5 b4 b3 b2 b1 b0 : Bool) : byteOfBits b7 b6 b5 b4 b3 b2 b1 b0 =
    (((((((BitVec.ofBool b7).concat b6).concat b5).concat b4).concat b3).concat b2).concat b1).concat b0 := rfl

theorem byteOfBits_toNat (b7 b6 b5 b4 b3 b2 b1 b0 : Bool) : (byteOfBits b7 b6 b5 b4 b3 b2 b1 b0).toNat =
    b0.toNat + 2 * b1.toNat + 4 * b2.toNat + 8 * b3.toNat + 16 * b4.toNat + 32 * b5.toNat + 64 * b6.toNat +
      128 * b7.toNat := by
  simp only [byteOfBits_eq_concat, BitVec.toNat_concat, BitVec.toNat_ofBool]
  omega

/-- Every byte is made of its bits. -/
theorem byteOfBits_getLsbD (v : Byte) :
    byteOfBits (v.getLsbD 7) (v.getLsbD 6) (v.getLsbD 5) (v.getLsbD 4) (v.getLsbD 3) (v.getLsbD 2) (v.getLsbD 1)
      (v.getLsbD 0) = v := by
  apply BitVec.eq_of_getLsbD_eq
  intro i hi
  rw [byteOfBits_eq_concat]
  interval_cases i <;> simp

theorem byteOfBits_and (a7 a6 a5 a4 a3 a2 a1 a0 b7 b6 b5 b4 b3 b2 b1 b0 : Bool) :
    byteOfBits a7 a6 a5 a4 a3 a2 a1 a0 &&& byteOfBits b7 b6 b5 b4 b3 b2 b1 b0 =
      byteOfBits (a7 && b7) (a6 && b6) (a5 && b5) (a4 && b4) (a3 && b3) (a2 && b2) (a1 && b1) (a0 && b0) := by
  simp [byteOfBits_eq_concat]

theorem byteOfBits_or (a7 a6 a5 a4 a3 a2 a1 a0 b7 b6 b5 b4 b3 b2 b1 b0 : Bool) :
    byteOfBits a7 a6 a5 a4 a3 a2 a1 a0 ||| byteOfBits b7 b6 b5 b4 b3 b2 b1 b0 =
      byteOfBits (a7 || b7) (a6 || b6) (a5 || b5) (a4 || b4) (a3 || b3) (a2 || b2) (a1 || b1) (a0 || b0) := by
  simp [byteOfBits_eq_concat]

/-! ### Addresses and their cells -/

/-- The data addresses that are neither a register nor RAM nor indirect (R61, R63; log 25). -/
def ReservedAddress (m : Byte) : Prop := m = 0x04#8 ∨ m = 0x0F#8 ∨ (0x1A ≤ m.toNat ∧ m.toNat ≤ 0x5F)

theorem ReservedAddress.direct {m : Byte} (h : ReservedAddress m) : m ≠ 0x00#8 ∧ m ≠ 0x02#8 := by
  obtain rfl | rfl | ⟨lo, -⟩ := h
  · decide
  · decide
  · constructor <;> rintro rfl <;> exact absurd lo (by decide)

/-- A RAM address is direct. -/
theorem direct_of_ram {m : Byte} (h : 0x60 ≤ m.toNat) : m ≠ 0x00#8 ∧ m ≠ 0x02#8 := by
  constructor <;> rintro rfl <;> exact absurd h (by decide)

/-- A direct address reads its cell. -/
theorem State.memRead_direct (s : State) {m : Byte} (h : m ≠ 0x00#8 ∧ m ≠ 0x02#8) : s.memRead m = s.cellRead m :=
  State.memRead_of_some (s.resolve_direct h.1 h.2)

/-- A direct address writes its cell. -/
theorem State.memWrite_direct (s : State) {m : Byte} (h : m ≠ 0x00#8 ∧ m ≠ 0x02#8) (v : Byte) :
    s.memWrite m v = s.cellWrite m v :=
  State.memWrite_of_some (s.resolve_direct h.1 h.2) v

/-- A reserved cell reads as 00H (R63). -/
theorem State.cellRead_reserved (s : State) {m : Byte} (h : ReservedAddress m) : s.cellRead m = 0x00#8 := by
  obtain rfl | rfl | ⟨lo, hi⟩ := h
  · rfl
  · rfl
  · have noRam : ¬ 0x60 ≤ m.toNat := by omega
    rw [State.cellRead, if_neg noRam]
    split
    case h_23 => rfl
    all_goals omega

/-- A write to a reserved cell does nothing (R64). -/
theorem State.cellWrite_reserved (s : State) {m : Byte} (h : ReservedAddress m) (v : Byte) : s.cellWrite m v = s := by
  obtain rfl | rfl | ⟨lo, hi⟩ := h
  · rfl
  · rfl
  · have noRam : ¬ 0x60 ≤ m.toNat := by omega
    have noRegister : ∀ k : Byte, k.toNat < 0x1A → m ≠ k := by rintro k hk rfl; omega
    rw [State.cellWrite_eq]
    simp [noRam, noRegister]

theorem State.memRead_ram (s : State) {m : Byte} (h : 0x60 ≤ m.toNat) : s.memRead m = s.ramByte m.toNat := by
  rw [s.memRead_direct (direct_of_ram h), State.cellRead, if_pos h]

/-! ### What an address reads as -/

/-- Settles O15: each direct address reads its own cell, and the named bits are those of a byte made of bits. -/
theorem registersRead : Obligations.RegistersRead := by
  intro s
  have pcl : s.memRead 0x06#8 = BitVec.ofNat 8 s.pc.toNat := by
    show s.pc.extractLsb' 0 8 = _
    simp [BitVec.extractLsb']
  have tblh : (s.memRead 0x08#8).toNat = s.tblh.toNat :=
    (BitVec.toNat_append 0#1 s.tblh).trans (by simp)
  have status : s.memRead 0x0A#8 = s.statusByte := rfl
  have intc : s.memRead 0x0B#8 = s.intcByte := rfl
  have tmr0h : (s.memRead 0x0C#8).toNat = s.tmr0.cnt.toNat / 256 := by
    have := s.tmr0.cnt.isLt
    show (s.tmr0.cnt.extractLsb' 8 8).toNat = _
    rw [BitVec.extractLsb'_toNat, Nat.shiftRight_eq_div_pow]
    omega
  have tmr0c : s.memRead 0x0E#8 = s.tmr0.controlByte := rfl
  have tmr1c : s.memRead 0x11#8 = s.tmr1.controlByte := rfl
  refine ⟨rfl, rfl, rfl, pcl, rfl, tblh, rfl, ?_, ?_, tmr0h, rfl, ?_, rfl, ?_, rfl, rfl, rfl, rfl, ?_, ?_⟩
  · simp [status, State.statusByte, byteOfBits_toNat]
  · simp [intc, State.intcByte, byteOfBits_toNat]
  · simp [tmr0c, Timer.controlByte, byteOfBits_toNat]
  · simp [tmr1c, Timer.controlByte, byteOfBits_toNat]
  · intro m (hm : ReservedAddress m)
    rw [s.memRead_direct hm.direct, s.cellRead_reserved hm]
  · exact fun m hm => s.memRead_ram hm

/-! ### What a written byte reads back as -/

/-- At a direct address the cell that is written is the cell that is read, whatever the write does to the pointers. -/
theorem State.memRead_memWrite_direct (s : State) {m : Byte} (h : m ≠ 0x00#8 ∧ m ≠ 0x02#8) (v : Byte) :
    (s.memWrite m v).memRead m = (s.cellWrite m v).cellRead m := by
  rw [s.memWrite_direct h, State.memRead_direct _ h]

/-- RAM holds what is written to it (R64). -/
theorem State.memRead_memWrite_ram {s : State} {m : Byte} (hw : Memory.wf s.ram = true) (h : 0x60 ≤ m.toNat) (v : Byte) :
    (s.memWrite m v).memRead m = v := by
  rw [s.memWrite_direct (direct_of_ram h), State.memRead_ram _ h, State.ramByte_cellWrite hw _ h, if_pos rfl]

/-- Writing STATUS keeps PD and TO (10_state.md R37). -/
theorem State.memRead_memWrite_status (s : State) (v : Byte) :
    (s.memWrite 0x0A#8 v).memRead 0x0A#8 = (v &&& 0x0F) ||| (s.memRead 0x0A#8 &&& 0x30) := by
  have written : (s.memWrite 0x0A#8 v).memRead 0x0A#8 =
      byteOfBits false false s.flagTO s.flagPD (v.getLsbD 3) (v.getLsbD 2) (v.getLsbD 1) (v.getLsbD 0) := rfl
  have before : s.memRead 0x0A#8 =
      byteOfBits false false s.flagTO s.flagPD s.flagOV s.flagZ s.flagAC s.flagC := rfl
  have low : (0x0F : Byte) = byteOfBits false false false false true true true true := rfl
  have high : (0x30 : Byte) = byteOfBits false false true true false false false false := rfl
  rw [written, before, low, high]
  conv_rhs => rw [← byteOfBits_getLsbD v, byteOfBits_and, byteOfBits_and, byteOfBits_or]
  simp

/-- INTC keeps all bits but bit 7 (10_state.md R40; log 27). -/
theorem State.memRead_memWrite_intc (s : State) (v : Byte) : (s.memWrite 0x0B#8 v).memRead 0x0B#8 = v &&& 0x7F := by
  have written : (s.memWrite 0x0B#8 v).memRead 0x0B#8 =
      byteOfBits false (v.getLsbD 6) (v.getLsbD 5) (v.getLsbD 4) (v.getLsbD 3) (v.getLsbD 2) (v.getLsbD 1)
        (v.getLsbD 0) := rfl
  have mask : (0x7F : Byte) = byteOfBits false true true true true true true true := rfl
  rw [written, mask]
  conv_rhs => rw [← byteOfBits_getLsbD v, byteOfBits_and]
  simp

/-- TMRnC keeps its four named bits (10_state.md R42). -/
theorem Timer.controlByte_writeControl {w : Nat} (t : Timer w) (v : Byte) :
    (t.writeControl v).controlByte = v &&& 0xD8 := by
  have written : (t.writeControl v).controlByte =
      byteOfBits (v.getLsbD 7) (v.getLsbD 6) false (v.getLsbD 4) (v.getLsbD 3) false false false := rfl
  have mask : (0xD8 : Byte) = byteOfBits true true false true true false false false := rfl
  rw [written, mask]
  conv_rhs => rw [← byteOfBits_getLsbD v, byteOfBits_and]
  simp

/-- Settles O17: an address reads back the bits its cell stores. -/
theorem writtenByteReadsBack : Obligations.WrittenByteReadsBack := by
  intro s m v hw
  refine ⟨?cells, ?status, ?intc, ?timers, ?tblh, ?reserved⟩
  case cells =>
    rintro (ram | rfl | rfl | rfl | rfl | rfl | rfl | rfl | rfl | rfl | rfl)
    · exact State.memRead_memWrite_ram hw ram v
    all_goals rfl
  case status => rintro rfl; exact s.memRead_memWrite_status v
  case intc => rintro rfl; exact s.memRead_memWrite_intc v
  case timers =>
    rintro (rfl | rfl)
    · exact s.tmr0.controlByte_writeControl v
    · exact s.tmr1.controlByte_writeControl v
  case tblh => rintro rfl; rfl
  case reserved =>
    intro (hm : ReservedAddress m)
    rw [s.memWrite_direct hm.direct, s.cellWrite_reserved hm]

end Sys2Proof.Machine
end

section
/-! PROOFS. The instruction a step runs (spec/20_memory.md R68; spec/60_exceptions.md R201), under SPEC-ENC and under every
encoding, and the whole step of a NOP. -/

namespace Sys2Proof.Machine

/-! ### Decoded instructions are well-formed -/

theorem decodeNone_wellFormed {fn : Nat} {i : Instr} (h : decodeNone fn = .ok i) : i.wellFormed = true := by
  unfold decodeNone at h
  split at h <;> cases h <;> rfl

theorem decodeOp7_wellFormed {op7 : Nat} {b : Byte} {i : Instr} (h : decodeOp7 op7 b = .ok i) : i.wellFormed = true := by
  unfold decodeOp7 at h
  split at h
  case h_1 => exact decodeNone_wellFormed h
  all_goals cases h <;> rfl

/-- Format B is the only one with a bit number, of three bits (30_encoding.md R90). -/
theorem decodeBit_wellFormed {bop i : Nat} {m : Byte} (hi : i < 8) : (decodeBit bop m i).wellFormed = true := by
  unfold decodeBit
  split <;> exact decide_eq_true hi

theorem decodeJump_wellFormed (isCall : Bool) (addr : Addr) : (decodeJump isCall addr).wellFormed = true := by
  cases isCall <;> rfl

theorem decode_wellFormed {w : Word} {i : Instr} (h : decode w = .ok i) : i.wellFormed = true := by
  unfold decode at h
  split at h
  · cases h
    exact decodeBit_wellFormed (w.extractLsb' 8 3).isLt
  · cases h
    exact decodeJump_wellFormed _ _
  · exact decodeOp7_wellFormed h

/-! ### The step of a machine that runs -/

/-- SPEC-ENC gives the instruction that a word decodes to (log 1). -/
theorem specEncoding_of_decode {w : Word} {i : Instr} (h : decode w = .ok i) : specEncoding w = some i := by
  simp [specEncoding, h]

/-- Without inputs to come a step takes nothing from them. -/
theorem State.inputTaken_of_quiet {s : State} (h : s.inputs = []) : s.inputTaken = s ∧ s.input = Input.quiet := by
  refine ⟨?_, by simp [State.input, h]⟩
  have tail : s.inputs.tail = s.inputs := by rw [h]; rfl
  rw [State.inputTaken, tail]

/-- One instruction with the time it takes (R201 steps 5 and 6). -/
def State.runInstruction (s : State) (i : Instr) (inp : Input) : Result :=
  match exec i s with
  | .next t => t.finish inp s
  | .fault f => .fault f
  | .refused r => .refused r

theorem State.runInstruction_of_next {s t : State} {i : Instr} (h : exec i s = .next t) (inp : Input) :
    s.runInstruction i inp = t.finish inp s := by
  simp only [State.runInstruction, h]

/-- With no interrupt to acknowledge, the fetched instruction runs. -/
theorem State.runCycle_of_fetch {s : State} {e : Encoding} {i : Instr} (hack : s.acknowledged = none)
    (hfetch : s.fetch e = some i) (inp : Input) : s.runCycle e inp = s.runInstruction i inp := by
  unfold State.runCycle
  rw [hack, hfetch]
  rfl

/-- With no interrupt to acknowledge, a word that is no instruction stops the step (30_encoding.md R92). -/
theorem State.runCycle_of_noFetch {s : State} {e : Encoding} (hack : s.acknowledged = none) (hfetch : s.fetch e = none)
    (inp : Input) : s.runCycle e inp = .refused .reservedInstruction := by
  unfold State.runCycle
  rw [hack, hfetch]

/-- A machine with power, without RES and awake goes on to an interrupt entry or an instruction (R201). -/
theorem State.cycle_of_awake {s : State} (hopt : s.badOption = false) (hpower : s.input.power = false)
    (hres : s.input.res = false) (hawake : s.halted = false) (e : Encoding) :
    s.cycle e = s.inputTaken.runCycle e s.input := by
  simp [State.cycle, hopt, hpower, hres, hawake]

/-- Such a machine, with no interrupt to acknowledge, runs the instruction at its program counter. What the step looks at
before the fetch does not depend on the inputs still to come. -/
theorem State.cycle_of_fetch {s : State} {e : Encoding} {i : Instr} (hopt : s.badOption = false)
    (hpower : s.input.power = false) (hres : s.input.res = false) (hawake : s.halted = false) (hack : s.acknowledged = none)
    (hfetch : s.fetch e = some i) : s.cycle e = s.inputTaken.runInstruction i s.input := by
  rw [State.cycle_of_awake hopt hpower hres hawake]
  exact State.runCycle_of_fetch (s := s.inputTaken) hack hfetch s.input

/-- Settles O5: `State.runInstruction` is the instruction with its time, under SPEC-ENC as under every other encoding. -/
theorem stepRunsDecodedInstruction : Obligations.StepRunsDecodedInstruction := by
  refine ⟨fun s i hopt hpower hres hawake hack hdecode => ⟨decode_wellFormed hdecode, ?_, State.inputTaken_of_quiet⟩,
    fun e s hopt hpower hres hawake hack => ⟨fun i hfetch => ?_, fun hfetch => ?_⟩⟩
  · exact State.cycle_of_fetch hopt hpower hres hawake hack (specEncoding_of_decode hdecode)
  · exact State.cycle_of_fetch hopt hpower hres hawake hack hfetch
  · rw [State.cycle_of_awake hopt hpower hres hawake]
    exact State.runCycle_of_noFetch (s := s.inputTaken) hack hfetch s.input

/-! ### Time with the devices off -/

/-- A timer whose clock is not blocked is left alone when blocking ends. -/
theorem Timer.unblocked_of_notBlocked {w : Nat} {t : Timer w} (h : t.blocked = false) : { t with blocked := false } = t := by
  rw [← h]

/-- Where no timer runs, cycles are only time. -/
theorem State.countCycles_off (s : State) : s.countCycles false false = { s with elapsed := s.elapsed + s.cyc } := by
  simp [State.countCycles, Timer.passCycles_off]

/-- Where no timer runs, pads only set EIF and what the edge detectors remember (60_exceptions.md R186). -/
theorem State.samplePads_off (s : State) (pulse : Bool) (p : Pads) : s.samplePads false false pulse p = { s with
    eif := s.eif || s.intFalls p, pads := p, lastInt := p.int, lastPa := p.pa, lastTmr1 := s.tmr1Level p } := by
  simp [State.samplePads, State.tmr0Edge, State.tmr1Edge, Timer.inputEdge_off]

theorem State.runWatchdog_disabled {s : State} (h : s.wdtDisabled = true) (osc : Nat) : s.runWatchdog osc = s :=
  if_pos h

/-- What quiet time does where no timer runs: it sets EIF on a fallen INT level, and the detectors follow the levels. -/
theorem State.timePassed_off {s : State} (hclock0 : s.tmr0.blocked = false) (hclock1 : s.tmr1.blocked = false) :
    s.timePassed Input.quiet false false = { s with
      elapsed := s.elapsed + s.cyc, eif := s.eif || s.intFalls s.pads
      lastInt := s.pads.int, lastPa := s.pads.pa, lastTmr1 := s.tmr1Level s.pads } := by
  show ((s.countCycles false false).samplePads false false true s.pads).unblocked = _
  rw [State.countCycles_off, State.samplePads_off, State.unblocked, Timer.unblocked_of_notBlocked hclock0,
    Timer.unblocked_of_notBlocked hclock1]
  rfl

/-- The end of a step with the timers and the watchdog off. -/
theorem State.finish_off {s before : State} (h0 : s.tmr0.ton = false) (h1 : s.tmr1.ton = false)
    (hwdt : s.wdtDisabled = true) (inp : Input) : s.finish inp before = .next (s.timePassed inp false false) := by
  have noMode : (s.tmr0.onInUnusedMode || s.tmr1.onInUnusedMode) = false := by simp [Timer.onInUnusedMode, h0, h1]
  have disabled : (s.timePassed inp false false).wdtDisabled = true := by
    rw [(s.timePassed_moved inp false false).same]; exact hwdt
  calc s.finish inp before
      = .next ((s.timePassed inp false false).runWatchdog inp.runOsc) := by
        rw [State.finish, noMode, h0, h1, Bool.and_false, Bool.and_false]; rfl
    _ = .next (s.timePassed inp false false) := by rw [State.runWatchdog_disabled disabled]

/-! ### NOP -/

theorem exec_nop (s : State) : exec .nop s = .next s.fetched := rfl

/-- With EMI clear nothing is acknowledged (60_exceptions.md R189). -/
theorem State.acknowledged_of_noEmi {s : State} (h : s.emi = false) : s.acknowledged = none := by
  rw [State.acknowledged_eq, if_neg (by simp [h])]

/-- Settles O7: the NOP is fetched, and its one cycle passes with the devices off. -/
theorem nopStepWithDevicesOff : Obligations.NopStepWithDevicesOff := by
  intro s hopt hinputs hawake hemi hword h0 h1 hwdt hclock0 hclock1
  obtain ⟨taken, quiet⟩ := State.inputTaken_of_quiet hinputs
  have nop : s.fetch specEncoding = some .nop := specEncoding_of_decode (by rw [hword]; rfl)
  have fetched : s.fetched = { s with pc := s.pc + 1, cyc := 1 } := by
    rw [State.fetched, Timer.unblocked_of_notBlocked hclock0, Timer.unblocked_of_notBlocked hclock1]
  calc step s
      = s.inputTaken.runInstruction .nop s.input := State.cycle_of_fetch hopt (by rw [quiet]; rfl) (by rw [quiet]; rfl)
        hawake (State.acknowledged_of_noEmi hemi) nop
    _ = s.fetched.finish Input.quiet s := by rw [taken, quiet, State.runInstruction_of_next (exec_nop s)]
    _ = .next (s.fetched.timePassed Input.quiet false false) :=
      State.finish_off (s := s.fetched) h0 h1 hwdt Input.quiet
    _ = _ := by rw [State.timePassed_off rfl rfl, fetched]; rfl

end Sys2Proof.Machine
end

section
/-! PROOFS. The decoder and the encoder of SPEC-ENC (spec/30_encoding.md R86 to R94): every word has one of the
formats, the decoder reads back the fields it was put together from, and so decoding and encoding are inverse. -/

namespace Sys2Proof.Machine

/-! ### The fields of a word -/

theorem toNat_extractLsb'_eq {w : Nat} (x : BitVec w) (start len : Nat) :
    (x.extractLsb' start len).toNat = x.toNat / 2 ^ start % 2 ^ len := by
  rw [BitVec.extractLsb'_toNat, Nat.shiftRight_eq_div_pow]

/-- Format N is format M with `op7` = 00H and the function code as operand (R87). -/
theorem wordN_eq_wordMI (fn : Byte) : wordN fn = wordMI 0x00#7 fn := rfl

/-- W[14:8] is the operation of a format M or I word. -/
theorem wordMI_op7 (op7 : BitVec 7) (b : Byte) : (wordMI op7 b).extractLsb' 8 7 = op7 := by
  apply BitVec.eq_of_toNat_eq
  rw [toNat_extractLsb'_eq, Laws.wordMI_toNat]
  omega

/-- W[7:0] is the operand of a format M or I word. -/
theorem wordMI_operand (op7 : BitVec 7) (b : Byte) : (wordMI op7 b).extractLsb' 0 8 = b := by
  apply BitVec.eq_of_toNat_eq
  rw [toNat_extractLsb'_eq, Laws.wordMI_toNat]
  omega

/-- W[12:11] is the operation of a format B word. -/
theorem wordB_bop (bop : BitVec 2) (i : Nat) (m : Byte) : (wordB bop i m).extractLsb' 11 2 = bop := by
  apply BitVec.eq_of_toNat_eq
  rw [toNat_extractLsb'_eq, Laws.wordB_toNat]
  omega

/-- W[10:8] is the bit number of a format B word. -/
theorem wordB_bitNumber (bop : BitVec 2) {i : Nat} (hi : i < 8) (m : Byte) :
    ((wordB bop i m).extractLsb' 8 3).toNat = i := by
  rw [toNat_extractLsb'_eq, Laws.wordB_toNat]
  omega

/-- W[7:0] is the data memory address of a format B word. -/
theorem wordB_operand (bop : BitVec 2) (i : Nat) (m : Byte) : (wordB bop i m).extractLsb' 0 8 = m := by
  apply BitVec.eq_of_toNat_eq
  rw [toNat_extractLsb'_eq, Laws.wordB_toNat]
  omega

/-- W[12] tells CALL from JMP. -/
theorem wordJ_isCall (isCall : BitVec 1) (addr : Addr) : (wordJ isCall addr).getLsbD 12 = isCall.getLsbD 0 := by
  rw [wordJ, BitVec.getLsbD_append, if_neg (by decide), BitVec.getLsbD_append, if_pos (by decide)]

/-- W[11:0] is the address of a format J word (R85, R91). -/
theorem wordJ_address (isCall : BitVec 1) (addr : Addr) : (wordJ isCall addr).extractLsb' 0 12 = addr := by
  apply BitVec.eq_of_toNat_eq
  rw [toNat_extractLsb'_eq, Laws.wordJ_toNat]
  omega

/-! ### What a word of each format decodes to -/

theorem decode_wordMI (op7 : BitVec 7) (b : Byte) (hop : op7.toNat < 0x40) :
    decode (wordMI op7 b) = decodeOp7 op7.toNat b := by
  have top : ((wordMI op7 b).extractLsb' 13 2).toNat = op7.toNat / 0x20 := by
    rw [toNat_extractLsb'_eq, Laws.wordMI_toNat]
    omega
  unfold decode
  split
  · omega
  · omega
  · rw [wordMI_op7, wordMI_operand]

theorem decode_wordN (fn : Byte) : decode (wordN fn) = decodeNone fn.toNat :=
  decode_wordMI 0x00#7 fn (by decide)

theorem decode_wordB (bop : BitVec 2) {i : Nat} (hi : i < 8) (m : Byte) :
    decode (wordB bop i m) = .ok (decodeBit bop.toNat m i) := by
  have top : ((wordB bop i m).extractLsb' 13 2).toNat = 2 := by
    rw [toNat_extractLsb'_eq, Laws.wordB_toNat]
    omega
  simp only [decode, top, wordB_bop, wordB_operand, wordB_bitNumber bop hi]

theorem decode_wordJ (isCall : BitVec 1) (addr : Addr) :
    decode (wordJ isCall addr) = .ok (decodeJump (isCall.getLsbD 0) addr) := by
  have top : ((wordJ isCall addr).extractLsb' 13 2).toNat = 3 := by
    rw [toNat_extractLsb'_eq, Laws.wordJ_toNat]
    omega
  simp only [decode, top, wordJ_isCall, wordJ_address]

/-! ### Decode after encode -/

theorem decode_encode {i : Instr} (h : i.wellFormed = true) : decode (encode i) = .ok i := by
  cases i with
  | nop | clrWdt | clrWdt1 | clrWdt2 | halt | ret | reti => exact decode_wordN _
  | clrMI m n | setMI m n | szMI m n | snzMI m n => exact decode_wordB _ (of_decide_eq_true h) m
  | jmp addr | call addr => exact decode_wordJ _ addr
  | _ => exact decode_wordMI _ _ (by decide)

/-- Settles O1: the word of each format decodes by the fields the encoder put into it. -/
theorem decodeOfEncode : Obligations.DecodeOfEncode := fun _ => decode_encode

/-! ### Encode after decode -/

/-- W[14:13] tells the formats apart, and the fields of a format make up the whole word (R86). -/
theorem word_format (w : Word) :
    (∃ op7 b, op7.toNat < 0x40 ∧ w = wordMI op7 b) ∨ (∃ bop i m, i < 8 ∧ w = wordB bop i m) ∨
      ∃ isCall addr, w = wordJ isCall addr := by
  have hw := w.isLt
  by_cases hMI : w.toNat < 0x4000
  · refine .inl ⟨w.extractLsb' 8 7, w.extractLsb' 0 8, ?_, BitVec.eq_of_toNat_eq ?_⟩
    · rw [toNat_extractLsb'_eq]; omega
    · rw [Laws.wordMI_toNat, toNat_extractLsb'_eq, toNat_extractLsb'_eq]; omega
  by_cases hB : w.toNat < 0x6000
  · refine .inr (.inl ⟨w.extractLsb' 11 2, (w.extractLsb' 8 3).toNat, w.extractLsb' 0 8, (w.extractLsb' 8 3).isLt,
      BitVec.eq_of_toNat_eq ?_⟩)
    rw [Laws.wordB_toNat, toNat_extractLsb'_eq, toNat_extractLsb'_eq, toNat_extractLsb'_eq]
    omega
  · refine .inr (.inr ⟨w.extractLsb' 12 1, w.extractLsb' 0 12, BitVec.eq_of_toNat_eq ?_⟩)
    rw [Laws.wordJ_toNat, toNat_extractLsb'_eq, toNat_extractLsb'_eq]
    omega

theorem encode_of_decodeNone {fn : Nat} {i : Instr} (h : decodeNone fn = .ok i) : encode i = wordN (BitVec.ofNat 8 fn) := by
  unfold decodeNone at h
  split at h <;> cases h <;> rfl

theorem encode_of_decodeOp7 {op7 : Nat} {b : Byte} {i : Instr} (h : decodeOp7 op7 b = .ok i) :
    encode i = wordMI (BitVec.ofNat 7 op7) b := by
  unfold decodeOp7 at h
  split at h
  case h_1 => rw [encode_of_decodeNone h, BitVec.ofNat_toNat, BitVec.setWidth_eq, wordN_eq_wordMI]
  all_goals cases h <;> rfl

theorem encode_decodeBit (bop : BitVec 2) (m : Byte) (i : Nat) : encode (decodeBit bop.toNat m i) = wordB bop i m := by
  match bop with
  | 0#2 | 1#2 | 2#2 | 3#2 => rfl

theorem encode_decodeJump (isCall : BitVec 1) (addr : Addr) :
    encode (decodeJump (isCall.getLsbD 0) addr) = wordJ isCall addr := by
  match isCall with
  | 0#1 | 1#1 => rfl

theorem encode_of_decode {w : Word} {i : Instr} (h : decode w = .ok i) : encode i = w := by
  obtain ⟨op7, b, hop, rfl⟩ | ⟨bop, n, m, hn, rfl⟩ | ⟨isCall, addr, rfl⟩ := word_format w
  · rw [decode_wordMI op7 b hop] at h
    rw [encode_of_decodeOp7 h, BitVec.ofNat_toNat, BitVec.setWidth_eq]
  · rw [decode_wordB bop hn m] at h
    cases h
    exact encode_decodeBit bop m n
  · rw [decode_wordJ] at h
    cases h
    exact encode_decodeJump isCall addr

theorem decode_of_specEncoding {w : Word} {i : Instr} (h : specEncoding w = some i) : decode w = .ok i := by
  unfold specEncoding at h
  split at h
  · next hdecode => exact Option.some.inj h ▸ hdecode
  · exact nomatch h

/-- SPEC-ENC is an encoding as D1 asks for one, because the encoder gives back the word it decodes. -/
theorem specEncoding_legal : LegalEncoding specEncoding where
  injective v w i hv hw := by
    calc v = encode i := (encode_of_decode (decode_of_specEncoding hv)).symm
      _ = w := encode_of_decode (decode_of_specEncoding hw)
  wellFormed _ _ h := decode_wellFormed (decode_of_specEncoding h)
  jmpAddress w a h := by
    rw [← encode_of_decode (decode_of_specEncoding h)]
    exact (wordJ_address 0#1 a).symm
  callAddress w a h := by
    rw [← encode_of_decode (decode_of_specEncoding h)]
    exact (wordJ_address 1#1 a).symm

/-- Settles O2: the fields of a decoded word make up the whole word. -/
theorem encodeOfDecode : Obligations.EncodeOfDecode :=
  ⟨fun _ _ h => ⟨decode_wellFormed h, encode_of_decode h⟩, specEncoding_legal⟩

/-! ### Reserved words -/

/-- The function codes that no line of the decoder names (R92). -/
theorem decodeNone_error_iff {fn : Nat} : (∃ r, decodeNone fn = .error r) ↔ 7 ≤ fn := by
  unfold decodeNone
  split
  case h_8 => exact iff_of_true ⟨_, rfl⟩ (by grind)
  all_goals simp

/-- The operations that no line of the decoder names, and format N with a reserved function code (R92). -/
theorem decodeOp7_error_iff {op7 : Nat} {b : Byte} :
    (∃ r, decodeOp7 op7 b = .error r) ↔ (op7 = 0 ∧ 7 ≤ b.toNat) ∨ (0x2C ≤ op7 ∧ op7 ≤ 0x2F) ∨ 0x37 ≤ op7 := by
  unfold decodeOp7
  split
  case h_1 => simp [decodeNone_error_iff]
  case h_52 => exact iff_of_true ⟨_, rfl⟩ (by grind)
  all_goals simp

/-- Settles O3: words of formats B and J are always instructions; the others are by their operation and function code. -/
theorem reservedWordsExactly : Obligations.ReservedWordsExactly := by
  intro w
  obtain ⟨op7, b, hop, rfl⟩ | ⟨bop, i, m, hi, rfl⟩ | ⟨isCall, addr, rfl⟩ := word_format w
  · rw [decode_wordMI op7 b hop, decodeOp7_error_iff, Laws.wordMI_toNat]
    omega
  · rw [decode_wordB bop hi m, Laws.wordB_toNat]
    exact iff_of_false (by simp) (by omega)
  · rw [decode_wordJ, Laws.wordJ_toNat]
    exact iff_of_false (by simp) (by omega)

/-! ### Written words -/

/-- Settles O4, by evaluating the decoder on each word. -/
theorem writtenWordsDecode : Obligations.WrittenWordsDecode := by
  unfold Obligations.WrittenWordsDecode
  and_intros <;> rfl

end Sys2Proof.Machine
end

section
/-! PROOFS. The stops of a step that are the model's own (spec/30_encoding.md R92, spec/00_scope.md R7,
spec/60_exceptions.md R221; logs 1, 33, 30). -/

namespace Sys2Proof.Machine

/-- A reserved word is no instruction under SPEC-ENC (R92). -/
theorem specEncoding_of_reserved {w : Word} (h : ∃ r, decode w = .error r) : specEncoding w = none := by
  obtain ⟨r, hr⟩ := h
  simp [specEncoding, hr]

/-- OP10 or OP11 set stops every step, before anything else is looked at (R7). -/
theorem State.cycle_of_badOption {s : State} (h : s.badOption = true) (e : Encoding) :
    s.cycle e = .refused .badOption := if_pos h

theorem Timer.onInUnusedMode_of_on {w : Nat} {t : Timer w} (h : t.ton = true ∧ t.mode = .unused) :
    t.onInUnusedMode = true := by
  simp [Timer.onInUnusedMode, h]

/-- A timer on in the unused mode lets no time pass (R221). -/
theorem State.finish_of_onInUnusedMode {s : State} (h : s.tmr0.onInUnusedMode = true ∨ s.tmr1.onInUnusedMode = true)
    (inp : Input) (before : State) : s.finish inp before = .refused .timerModeUnused :=
  if_pos (Bool.or_eq_true_iff.2 h)

/-- Settles O6: a step checks the options first, then the fetched word, and lets time pass last. -/
theorem stepRefusals : Obligations.StepRefusals := by
  refine ⟨fun s hopt hpower hres hawake hack hreserved => ?_, fun s hbad => ?_, fun s before inp hmode => ?_⟩
  · exact (stepRunsDecodedInstruction.2 specEncoding s hopt hpower hres hawake hack).2 (specEncoding_of_reserved hreserved)
  · exact State.cycle_of_badOption (Bool.or_eq_true_iff.2 hbad) specEncoding
  · exact State.finish_of_onInUnusedMode (hmode.imp Timer.onInUnusedMode_of_on Timer.onInUnusedMode_of_on) inp before

end Sys2Proof.Machine
end

section
/-! PROOFS. The arithmetic instructions (spec/40_arithmetic.md R100 to R111): the sum and the difference with their four
flags in ACC and in memory, and DAA on numbers. -/

namespace Sys2Proof.Machine

/-! ### The sum and the difference on numbers (R100) -/

/-- A byte as a signed number, by its sign bit. -/
theorem toInt_byte_cases (a : Byte) :
    a.toNat < 128 ∧ a.toInt = a.toNat ∨ 128 ≤ a.toNat ∧ a.toNat < 256 ∧ a.toInt = a.toNat - 256 := by
  have := a.isLt
  rw [BitVec.toInt_eq_toNat_cond]
  omega

/-- The complement of a byte as a signed number. -/
theorem toInt_not_byte (b : Byte) : (~~~b).toInt = -b.toInt - 1 := by
  have complement : (~~~b).toNat = 255 - b.toNat := BitVec.toNat_not
  rcases toInt_byte_cases b with hb | hb <;> rcases toInt_byte_cases (~~~b) with hn | hn <;> omega

/-- OV, the carry into bit 7 against the carry out of it, says that the exact signed sum does not fit (R15). -/
theorem addOV_eq (a b : Byte) (cin : Bool) : addOV a b cin = outOfSignedRange (a.toInt + b.toInt + cin.toNat) := by
  have hcin := cin.toNat_le
  rw [Bool.eq_iff_iff, addOV, Bool.xor_iff_ne, ne_eq, addC6, addC, decide_eq_decide, sum9, outOfSignedRange,
    decide_eq_true_eq]
  rcases toInt_byte_cases a with ha | ha <;> rcases toInt_byte_cases b with hb | hb <;> omega

theorem zeroOf_ofNat (n : Nat) : zeroOf (BitVec.ofNat 8 n) = decide (n % 256 = 0) := by
  simp [zeroOf, ← BitVec.toNat_inj]

/-- The addition, said in numbers. -/
theorem aluAdd_eq (cin : Bool) (a b : Byte) : aluAdd cin a b =
    { value := BitVec.ofNat 8 (a.toNat + b.toNat + cin.toNat)
      flags := { c := some (decide (255 < a.toNat + b.toNat + cin.toNat))
                 ac := some (decide (15 < a.toNat % 16 + b.toNat % 16 + cin.toNat))
                 z := some (decide ((a.toNat + b.toNat + cin.toNat) % 256 = 0))
                 ov := some (outOfSignedRange (a.toInt + b.toInt + cin.toNat)) } } := by
  rw [← addOV_eq, ← zeroOf_ofNat]
  rfl

/-- The subtraction `a + ~b + cin`, said in numbers: it borrows one more where `cin` is 0, and C and AC are 1 where no borrow
takes place. -/
theorem aluSub_eq (cin : Bool) (a b : Byte) : aluSub cin a b =
    { value := BitVec.ofInt 8 ((a.toNat : Int) - b.toNat - (!cin).toNat)
      flags := { c := some (decide (b.toNat + (!cin).toNat ≤ a.toNat))
                 ac := some (decide (b.toNat % 16 + (!cin).toNat ≤ a.toNat % 16))
                 z := some (decide (((a.toNat : Int) - b.toNat - (!cin).toNat) % 256 = 0))
                 ov := some (outOfSignedRange (a.toInt - b.toInt - (!cin).toNat)) } } := by
  have hb := b.isLt
  have complement : (~~~b).toNat = 255 - b.toNat := BitVec.toNat_not
  have borrow : (!cin).toNat = 1 - cin.toNat := by cases cin <;> rfl
  have hcin := cin.toNat_le
  have value : BitVec.ofNat 8 (a.toNat + (255 - b.toNat) + cin.toNat) =
      BitVec.ofInt 8 ((a.toNat : Int) - b.toNat - (1 - cin.toNat : Nat)) := by
    apply BitVec.eq_of_toNat_eq
    rw [BitVec.toNat_ofNat, BitVec.toNat_ofInt]
    omega
  rw [aluSub, aluAdd_eq, complement, toInt_not_byte, borrow, value]
  congr 4
  case e_c | e_ac | e_z => exact propext (by omega)
  case e_ov => omega

/-! ### Results to ACC -/

theorem State.toAcc_sumInAcc (s u : State) (b : Byte) (c : Bool) : SumInAcc s b c (u.toAcc (aluAdd c s.acc b)) where
  acc := BitVec.toNat_ofNat _ _
  carry := rfl
  aux := rfl
  zero := rfl
  overflow := addOV_eq s.acc b c

theorem State.toAcc_differenceInAcc (s u : State) (b : Byte) (c : Bool) :
    DifferenceInAcc s b (!c) (u.toAcc (aluSub c s.acc b)) := by
  have value : ((aluSub c s.acc b).value.toNat : Int) = ((s.acc.toNat : Int) - b.toNat - (!c).toNat) % 256 := by
    rw [aluSub_eq, BitVec.toNat_ofInt]
    omega
  have zero : (u.toAcc (aluSub c s.acc b)).flagZ = decide ((aluSub c s.acc b).value = 0#8) := rfl
  have flags := congrArg AluResult.flags (aluSub_eq c s.acc b)
  exact ⟨value, congrArg (·.c.getD u.flagC) flags, congrArg (·.ac.getD u.flagAC) flags, zero,
    congrArg (·.ov.getD u.flagOV) flags⟩

/-- A result to ACC leaves all but ACC and the four flags as it was. -/
theorem State.memToAcc_accFromMemory (s : State) (m : Byte) (op : Byte → Byte → AluResult) :
    AccFromMemory s m (s.memToAcc m op) :=
  have ⟨frame, read, next⟩ := s.memToAcc_frame m op
  ⟨frame, read, next⟩

theorem State.immToAcc_accFromImmediate (s : State) (x : Byte) (op : Byte → Byte → AluResult) :
    AccFromImmediate s (s.immToAcc x op) :=
  have ⟨frame, read, next⟩ := s.immToAcc_frame x op
  ⟨frame, read, next⟩

/-- Settles O18: each of the three is an addition to ACC, and its word has its own operation code. -/
theorem additionToAcc : Obligations.AdditionToAcc := fun s m =>
  ⟨⟨⟨_, rfl, s.toAcc_sumInAcc _ _ false, s.memToAcc_accFromMemory m _⟩, Laws.wordMI_toNat 0x01#7 m⟩,
    ⟨⟨_, rfl, s.toAcc_sumInAcc _ m false, s.immToAcc_accFromImmediate m _⟩, Laws.wordMI_toNat 0x30#7 m⟩,
    ⟨⟨_, rfl, s.toAcc_sumInAcc _ _ s.flagC, s.memToAcc_accFromMemory m _⟩, Laws.wordMI_toNat 0x03#7 m⟩⟩

/-- Settles O19: each of the three is a subtraction into ACC, and its word has its own operation code. -/
theorem subtractionToAcc : Obligations.SubtractionToAcc := fun s m =>
  ⟨⟨⟨_, rfl, s.toAcc_differenceInAcc _ m true, s.immToAcc_accFromImmediate m _⟩, Laws.wordMI_toNat 0x31#7 m⟩,
    ⟨⟨_, rfl, s.toAcc_differenceInAcc _ _ true, s.memToAcc_accFromMemory m _⟩, Laws.wordMI_toNat 0x05#7 m⟩,
    ⟨⟨_, rfl, s.toAcc_differenceInAcc _ _ s.flagC, s.memToAcc_accFromMemory m _⟩, Laws.wordMI_toNat 0x07#7 m⟩⟩

/-! ### Results to memory -/

theorem State.memToMem_sumStored {s : State} (m : Byte) (c : Bool) (hw : Memory.wf s.ram = true) :
    SumStored s m (s.fetched.memRead m) c (s.memToMem m (aluAdd c)) := by
  have h := State.memToMem_storesTo m (aluAdd c) hw
  rw [aluAdd_eq] at h
  exact h

theorem State.memToMem_differenceStored {s : State} (m : Byte) (c : Bool) (hw : Memory.wf s.ram = true) :
    DifferenceStored s m (s.fetched.memRead m) (!c) (s.memToMem m (aluSub c)) := by
  have h := State.memToMem_storesTo m (aluSub c) hw
  rw [aluSub_eq] at h
  exact h

/-- Settles O20: the two differ in the carry in alone. -/
theorem additionToMemory : Obligations.AdditionToMemory := fun s m hw =>
  ⟨⟨_, rfl, State.memToMem_sumStored m false hw⟩, ⟨_, rfl, State.memToMem_sumStored m s.flagC hw⟩⟩

/-- Settles O21: the two differ in the borrow alone. -/
theorem subtractionToMemory : Obligations.SubtractionToMemory := fun s m hw =>
  ⟨⟨_, rfl, State.memToMem_differenceStored m true hw⟩, ⟨_, rfl, State.memToMem_differenceStored m s.flagC hw⟩⟩

/-! ### DAA on numbers (R111) -/

/-- Two bit vectors put together, as a number: for nibbles, the byte with these two digits. -/
theorem toNat_append_eq_add {w v : Nat} (hi : BitVec w) (lo : BitVec v) :
    (hi ++ lo).toNat = 2 ^ v * hi.toNat + lo.toNat := by
  rw [BitVec.toNat_append, ← Nat.shiftLeft_add_eq_or_of_lt lo.isLt, Nat.shiftLeft_eq, Nat.mul_comm]

theorem daaLow_toNat (acc : Byte) (ac : Bool) :
    (daaLow acc ac).toNat = (if acc.toNat % 16 > 9 ∨ ac then acc.toNat % 16 + 6 else acc.toNat % 16) % 16 := by
  simp only [daaLow, Bool.or_eq_true, decide_eq_true_eq, apply_ite BitVec.toNat, BitVec.toNat_ofNat]
  split <;> rfl

/-- A digit over 9 is adjusted to the units digit. -/
theorem daaLow_over9 {acc : Byte} (hlo : 9 < acc.toNat % 16) (ac : Bool) :
    (daaLow acc ac).toNat = acc.toNat % 16 - 10 := by
  rw [daaLow_toNat, if_pos (.inl hlo)]
  omega

/-- The high nibble and C of DAA where the number `n` is tested against 9: the Operation block tests the high digit, a decimal
adjustment the high digit with AC1. -/
def daaHighTesting (n : Nat) (acc : Byte) (ac1 c : Bool) : BitVec 4 × Bool :=
  if decide (n > 9) || c then (BitVec.ofNat 4 (acc.toNat / 16 + 6 + ac1.toNat), true)
  else (BitVec.ofNat 4 (acc.toNat / 16 + ac1.toNat), c)

theorem daaHigh_eq_testing (acc : Byte) (ac1 c : Bool) :
    daaHigh acc ac1 c = daaHighTesting (acc.toNat / 16) acc ac1 c := rfl

theorem daaHighDecimal_eq_testing (acc : Byte) (ac1 c : Bool) :
    daaHighDecimal acc ac1 c = daaHighTesting (acc.toNat / 16 + ac1.toNat) acc ac1 c := rfl

theorem daaHighTesting_toNat (n : Nat) (acc : Byte) (ac1 c : Bool) : (daaHighTesting n acc ac1 c).1.toNat =
    (acc.toNat / 16 + ac1.toNat + if 9 < n ∨ c then 6 else 0) % 16 := by
  simp only [daaHighTesting, Bool.or_eq_true, decide_eq_true_eq, gt_iff_lt]
  split <;> rw [BitVec.toNat_ofNat] <;> omega

theorem daaHighTesting_carry (n : Nat) (acc : Byte) (ac1 c : Bool) :
    (daaHighTesting n acc ac1 c).2 = (decide (9 < n) || c) := by
  unfold daaHighTesting
  by_cases hn : 9 < n <;> cases c <;> simp [hn]

theorem daaAc1_toNat (acc : Byte) (ac : Bool) : (daaAc1 acc ac).toNat = daaAc1Nat (acc.toNat % 16) ac := by
  cases ac
  · simp [daaAc1, daaAc1Nat, Bool.toNat, Bool.cond_decide]
  · simp [daaAc1, daaAc1Nat]

/-- The Operation block of the model is the one on numbers. -/
theorem daaBlock_eq (acc : Byte) (ac c : Bool) : daaBlock acc ac c =
    (BitVec.ofNat 8 (daaBlockNat (acc.toNat / 16) (acc.toNat % 16) ac c (daaAc1Nat (acc.toNat % 16) ac)).1,
      (daaBlockNat (acc.toNat / 16) (acc.toNat % 16) ac c (daaAc1Nat (acc.toNat % 16) ac)).2) := by
  refine Prod.ext (BitVec.eq_of_toNat_eq ?_) (daaHighTesting_carry _ acc _ c)
  simp only [daaBlock, daaBlockNat, toNat_append_eq_add, daaLow_toNat, daaHigh_eq_testing, daaHighTesting_toNat,
    daaAc1_toNat, BitVec.toNat_ofNat]
  split <;> split <;> omega

/-! ### The bands B1 and B2 (90_conflicts.md C5; log 12) -/

theorem daaBand1_iff (acc : Byte) (ac c : Bool) : daaBand1 acc ac c = true ↔
    acc.toNat / 16 = 9 ∧ 9 < acc.toNat % 16 ∧ ac = false ∧ c = false := by
  simp [daaBand1, and_assoc]

theorem daaBand2_iff (acc : Byte) (ac : Bool) : daaBand2 acc ac = true ↔ 9 < acc.toNat % 16 ∧ ac = true := by
  simp [daaBand2]

theorem daaCandidate_of_noBand {acc : Byte} {ac c : Bool} (h1 : ¬ daaBand1 acc ac c = true)
    (h2 : ¬ daaBand2 acc ac = true) (pick : Nat) : daaCandidate pick acc ac c = daaBlock acc ac c := by
  rw [daaCandidate, if_neg h1, if_neg h2]

/-- In band B1 the block leaves the high digit at 0AH, and a decimal adjustment carries out of the byte. -/
theorem daaCandidate_of_band1 {acc : Byte} (hhi : acc.toNat / 16 = 9) (hlo : 9 < acc.toNat % 16) (pick : Nat) :
    daaCandidate pick acc false false = (BitVec.ofNat 8 (0xA0 + (acc.toNat % 16 - 10)), false) ∨
      daaCandidate pick acc false false = (BitVec.ofNat 8 (acc.toNat % 16 - 10), true) := by
  have hband : daaBand1 acc false false = true := (daaBand1_iff acc false false).2 ⟨hhi, hlo, rfl, rfl⟩
  rw [daaCandidate, if_pos hband]
  split
  · refine .inl ((daaBlock_eq acc false false).trans ?_)
    have hsix : (acc.toNat % 16 + 6) % 16 = acc.toNat % 16 - 10 := by omega
    simp [daaBlockNat, daaAc1Nat, hhi, hlo, hsix]
  · have hhigh : (daaHighDecimal acc true false).1.toNat = 0 := by
      rw [daaHighDecimal_eq_testing, daaHighTesting_toNat, hhi]
      rfl
    have hcarry : (daaHighDecimal acc true false).2 = true := by
      rw [daaHighDecimal_eq_testing, daaHighTesting_carry, hhi]
      rfl
    refine .inr (Prod.ext (BitVec.eq_of_toNat_eq ?_) hcarry)
    rw [toNat_append_eq_add, hhigh, daaLow_over9 hlo, BitVec.toNat_ofNat]
    omega

/-- In band B2 the low digit is adjusted, and the high one is that of one of the three readings. -/
theorem daaCandidate_of_band2 {acc : Byte} (hlo : 9 < acc.toNat % 16) (c : Bool) (pick : Nat) :
    ∃ hi : BitVec 4 × Bool, daaCandidate pick acc true c = (hi.1 ++ daaLow acc true, hi.2) ∧
      (hi = daaHigh acc false c ∨ hi = daaHigh acc true c ∨ hi = daaHighDecimal acc true c) := by
  have hband1 : ¬ daaBand1 acc true c = true := by simp [daaBand1_iff]
  have hac1 : daaAc1 acc true = false := Bool.and_false _
  rw [daaCandidate, if_neg hband1, if_pos ((daaBand2_iff acc true).2 ⟨hlo, rfl⟩), daaBlock, hac1]
  split
  · exact ⟨_, rfl, .inl rfl⟩
  · split
    · exact ⟨_, rfl, .inr (.inl rfl)⟩
    · exact ⟨_, rfl, .inr (.inr rfl)⟩

/-! ### The instruction DAA -/

/-- `StoresTo` does not speak of the number of the next free value that the state had before. -/
theorem StoresTo.of_draws {s t : State} {m v : Byte} {reads : Bool} {c ac z ov : Option Bool} {n : Nat}
    (h : StoresTo { s with draws := n } m v reads c ac z ov t) : StoresTo s m v reads c ac z ov t :=
  { h with
    store := { h.store with
      stack := { h.store.stack with }, watchdog := { h.store.watchdog with }, world := { h.store.world with } }
    status := { h.status with } }

/-- DAA stores the byte of its candidate in `[m]` without reading it, and writes C alone. -/
theorem exec_daaM_storesTo {s : State} (m : Byte) (hw : Memory.wf s.ram = true) :
    ∃ t, exec (.daaM m) s = .next t ∧
      StoresTo s m (daaCandidate (Config.daaPick s.draws) s.acc s.flagAC s.flagC).1 false
        (some (daaCandidate (Config.daaPick s.draws) s.acc s.flagAC s.flagC).2) none none none t :=
  ⟨_, rfl, (State.toMem_storesTo (s := s.afterDaaPick) m s.daaResult false hw).of_draws⟩

/-- DAA of ACC puts the byte of its candidate back in ACC. -/
theorem exec_daaM_acc (s : State) : ∃ t, exec (.daaM 0x05#8) s = .next t ∧
    t.acc = (daaCandidate (Config.daaPick s.draws) s.acc s.flagAC s.flagC).1 ∧
    t.flagC = (daaCandidate (Config.daaPick s.draws) s.acc s.flagAC s.flagC).2 :=
  ⟨_, rfl, rfl, rfl⟩

/-- Settles O22: outside the bands the one candidate is the Operation block. -/
theorem daaOutsideBands : Obligations.DaaOutsideBands := by
  intro s m hw h1 h2
  have h := exec_daaM_storesTo m hw
  rw [daaCandidate_of_noBand (mt (daaBand1_iff _ _ _).1 h1) (mt (daaBand2_iff _ _).1 h2), daaBlock_eq] at h
  exact h

/-- Settles O23: in each band the stored byte and C are those of one of the band's candidates. -/
theorem daaInsideBands : Obligations.DaaInsideBands := by
  refine ⟨fun s m hw hhi hlo hac hc => ?_, fun s m hw hlo hac => ?_⟩
  · obtain ⟨t, hexec, hstore⟩ := exec_daaM_storesTo m hw
    rw [hac, hc] at hstore
    refine ⟨t, hexec, ?_⟩
    rcases daaCandidate_of_band1 hhi hlo (Config.daaPick s.draws) with h | h <;> rw [h] at hstore
    · exact .inl hstore
    · exact .inr hstore
  · obtain ⟨t, hexec, hstore⟩ := exec_daaM_storesTo m hw
    obtain ⟨hi, hcandidate, hreading⟩ := daaCandidate_of_band2 hlo s.flagC (Config.daaPick s.draws)
    rw [hac, hcandidate] at hstore
    have hnibble := hi.1.isLt
    have hlow := daaLow_over9 hlo true
    have hdigit : (hi.1 ++ daaLow s.acc true).toNat / 16 = hi.1.toNat := by
      rw [toNat_append_eq_add]
      omega
    refine ⟨t, hexec, _, _, hstore, ?_, ?_⟩
    · rw [toNat_append_eq_add]
      omega
    · rw [hdigit]
      rcases hreading with rfl | rfl | rfl
      · exact .inl ⟨daaHighTesting_toNat _ _ false _, daaHighTesting_carry _ _ _ _⟩
      · exact .inr (.inl ⟨daaHighTesting_toNat _ _ true _, daaHighTesting_carry _ _ _ _⟩)
      · have htest : 9 < s.acc.toNat / 16 + true.toNat ↔ 8 < s.acc.toNat / 16 := by rw [Bool.toNat_true]; omega
        simp only [daaHighDecimal_eq_testing, daaHighTesting_toNat, daaHighTesting_carry, htest]
        exact .inr (.inr ⟨rfl, trivial⟩)

/-! ### DAA after an addition -/

/-- The Operation block on a binary sum, with its AC and C, of digits that add up to `tens` and `units`: outside band B1 it is
the units modulo 10, and the tens with the carry of the units modulo 10. -/
theorem daaBlockNat_of_sum {tens units sum : Nat} (htens : tens ≤ 18) (hunits : units ≤ 18)
    (hsum : sum = 16 * tens + units) (hband : ¬ (tens = 9 ∧ 10 ≤ units ∧ units ≤ 15)) :
    daaBlockNat (sum % 256 / 16) (sum % 256 % 16) (decide (15 < units)) (decide (255 < sum))
        (daaAc1Nat (sum % 256 % 16) (decide (15 < units))) =
      (16 * ((tens + units / 10) % 10) + units % 10, decide (9 < tens + units / 10)) := by
  have hover : (sum % 256 / 16 > 9 ∨ 255 < sum) ↔ 9 < tens + units / 10 := by omega
  have hadjust : (sum % 256 % 16 > 9 ∨ 15 < units) ↔ 9 < units := by omega
  simp only [daaBlockNat, daaAc1Nat, decide_eq_true_eq, ← Bool.decide_or, hover, hadjust, Prod.mk.injEq, and_true]
  by_cases hhalf : 15 < units
  · simp only [hhalf, decide_true, Bool.toNat_true, Nat.sub_self, ite_self]
    split_ifs <;> omega
  · simp only [hhalf, decide_false, Bool.toNat_false, Nat.sub_zero]
    split_ifs <;> omega

/-- A byte put together from two decimal digits. -/
theorem decimalOf_digits {hi lo : Nat} (hhi : hi < 10) (hlo : lo < 10) :
    isDecimal (BitVec.ofNat 8 (16 * hi + lo)) ∧ decimalOf (BitVec.ofNat 8 (16 * hi + lo)) = 10 * hi + lo := by
  unfold isDecimal decimalOf
  rw [BitVec.toNat_ofNat]
  omega

/-- Outside tens of 9 with units of 10 to 15 the sum of two decimal bytes is in neither band, so DAA has one candidate: the
decimal sum. -/
theorem daaCandidate_of_sum {a x v : Byte} {c : Bool} {pick : Nat} (ha : isDecimal a) (hx : isDecimal x)
    (hband : ¬ (a.toNat / 16 + x.toNat / 16 = 9 ∧ 10 ≤ a.toNat % 16 + x.toNat % 16 ∧ a.toNat % 16 + x.toNat % 16 ≤ 15))
    (hcandidate : daaCandidate pick (addResult a x false) (addAC a x false) (addC a x false) = (v, c)) :
    isDecimal v ∧ decimalOf v + 100 * c.toNat = decimalOf a + decimalOf x := by
  obtain ⟨hah, hal⟩ := ha
  obtain ⟨hxh, hxl⟩ := hx
  have hsum : a.toNat + x.toNat = 16 * (a.toNat / 16 + x.toNat / 16) + (a.toNat % 16 + x.toNat % 16) := by omega
  have hresult : (addResult a x false).toNat = (a.toNat + x.toNat) % 256 := BitVec.toNat_ofNat _ _
  have hac : addAC a x false = decide (15 < a.toNat % 16 + x.toNat % 16) := rfl
  have hc : addC a x false = decide (255 < a.toNat + x.toNat) := rfl
  have hnoBand1 : ¬ daaBand1 (addResult a x false) (addAC a x false) (addC a x false) = true := by
    rw [daaBand1_iff, hresult, hac, hc, decide_eq_false_iff_not, decide_eq_false_iff_not]
    omega
  have hnoBand2 : ¬ daaBand2 (addResult a x false) (addAC a x false) = true := by
    rw [daaBand2_iff, hresult, hac, decide_eq_true_eq]
    omega
  rw [daaCandidate_of_noBand hnoBand1 hnoBand2, daaBlock_eq, hresult, hac, hc,
    daaBlockNat_of_sum (by omega) (by omega) hsum hband] at hcandidate
  obtain ⟨rfl, rfl⟩ := Prod.mk.inj hcandidate
  obtain ⟨hdecimal, hvalue⟩ := decimalOf_digits (Nat.mod_lt _ (by decide)) (Nat.mod_lt _ (by decide))
  refine ⟨hdecimal, ?_⟩
  rw [hvalue, Bool.toNat, Bool.cond_decide, decimalOf, decimalOf]
  split <;> omega

/-- Settles O24: DAA of ACC puts its candidate for the sum back in ACC. -/
theorem decimalAddition : Obligations.DecimalAddition := by
  intro s t x hacc hx hband hadd
  obtain rfl := Host.Outcome.next.inj hadd
  obtain ⟨u, hexec, hu, hc⟩ := exec_daaM_acc (s.immToAcc x (aluAdd false))
  exact ⟨u, hexec, daaCandidate_of_sum hacc hx hband (Prod.ext hu.symm hc.symm)⟩

end Sys2Proof.Machine
end

section
/-! PROOFS. The logic instructions (spec/41_logic.md R115 to R126), from what holds of every result that writes Z
alone, in ACC and in memory. -/

namespace Sys2Proof.Machine

/-! ### Results that write Z alone -/

/-- A result that writes Z alone, to ACC in a state `u` in which the instruction has not yet changed a flag. -/
theorem State.toAcc_zeroFlagInAcc {s u : State} (hflags : SameFlags s u) (r : Byte) :
    ZeroFlagInAcc s r (u.toAcc (.withZ r)) where
  acc := rfl
  z := rfl
  c := hflags.c
  ac := hflags.ac
  ov := hflags.ov

theorem State.memToAcc_zeroFlagInAcc (s : State) (m : Byte) {op : Byte → Byte → AluResult} {r : Byte}
    (hop : op s.acc (s.fetched.memRead m) = .withZ r) : ZeroFlagInAcc s r (s.memToAcc m op) := by
  have hread : SameFlags s (s.fetched.afterRead m) := ⟨rfl, rfl, rfl, rfl⟩
  rw [State.memToAcc, hop]
  exact State.toAcc_zeroFlagInAcc hread r

theorem State.immToAcc_zeroFlagInAcc (s : State) (x : Byte) {op : Byte → Byte → AluResult} {r : Byte}
    (hop : op s.acc x = .withZ r) : ZeroFlagInAcc s r (s.immToAcc x op) := by
  have hfetched : SameFlags s s.fetched := ⟨rfl, rfl, rfl, rfl⟩
  rw [State.immToAcc, hop]
  exact State.toAcc_zeroFlagInAcc hfetched r

/-- Z is taken from the result `r` as computed, whatever `[m]` then stores of it. -/
theorem State.memToMem_zeroFlagStored {s : State} (m : Byte) {op : Byte → Byte → AluResult} {r : Byte}
    (hop : op s.acc (s.fetched.memRead m) = .withZ r) (hw : Memory.wf s.ram = true) :
    ZeroFlagStored s m r (s.memToMem m op) := by
  have h := State.memToMem_storesTo m op hw
  rw [hop] at h
  exact h

/-! ### The logic instructions -/

/-- The complement, said in numbers. -/
theorem aluCpl_eq (a b : Byte) : aluCpl a b = .withZ (255 - b) :=
  congrArg AluResult.withZ (BitVec.allOnes_sub_eq_not b).symm

/-- Settles O26: AND, OR and XOR are bitwise by definition, and the complement is 255 less the byte. -/
theorem logicToMemory : Obligations.LogicToMemory := fun _ m hw =>
  ⟨⟨_, rfl, State.memToMem_zeroFlagStored m rfl hw⟩, ⟨_, rfl, State.memToMem_zeroFlagStored m rfl hw⟩,
    ⟨_, rfl, State.memToMem_zeroFlagStored m rfl hw⟩, ⟨_, rfl, State.memToMem_zeroFlagStored m (aluCpl_eq _ _) hw⟩⟩

/-- Settles O25: the results are those of O26, and each word has its own operation code. -/
theorem logicToAcc : Obligations.LogicToAcc := fun s m =>
  ⟨⟨⟨_, rfl, s.memToAcc_zeroFlagInAcc m rfl, s.memToAcc_accFromMemory m _⟩, Laws.wordMI_toNat 0x0A#7 m⟩,
    ⟨⟨_, rfl, s.memToAcc_zeroFlagInAcc m rfl, s.memToAcc_accFromMemory m _⟩, Laws.wordMI_toNat 0x0B#7 m⟩,
    ⟨⟨_, rfl, s.memToAcc_zeroFlagInAcc m rfl, s.memToAcc_accFromMemory m _⟩, Laws.wordMI_toNat 0x0C#7 m⟩,
    ⟨⟨_, rfl, s.immToAcc_zeroFlagInAcc m rfl, s.immToAcc_accFromImmediate m _⟩, Laws.wordMI_toNat 0x32#7 m⟩,
    ⟨⟨_, rfl, s.immToAcc_zeroFlagInAcc m rfl, s.immToAcc_accFromImmediate m _⟩, Laws.wordMI_toNat 0x33#7 m⟩,
    ⟨⟨_, rfl, s.immToAcc_zeroFlagInAcc m rfl, s.immToAcc_accFromImmediate m _⟩, Laws.wordMI_toNat 0x34#7 m⟩,
    ⟨⟨_, rfl, s.memToAcc_zeroFlagInAcc m (aluCpl_eq _ _), s.memToAcc_accFromMemory m _⟩, Laws.wordMI_toNat 0x11#7 m⟩⟩

end Sys2Proof.Machine
end

section
/-! PROOFS. The increment, decrement, rotate and swap instructions (spec/42_incdec_rotate.md R130 to R142,
spec/45_table_misc.md R179, R180): their results said in numbers and rotations, and from them their effects in ACC and in
memory. -/

namespace Sys2Proof.Machine

/-! ### Increment and decrement on numbers (R131, R133) -/

theorem aluInc_eq (a b : Byte) : aluInc a b = .withZ (BitVec.ofNat 8 (b.toNat + 1)) :=
  congrArg AluResult.withZ (by bv_omega)

/-- Modulo 256, one less is 255 more. -/
theorem aluDec_eq (a b : Byte) : aluDec a b = .withZ (BitVec.ofNat 8 (b.toNat + 255)) :=
  congrArg AluResult.withZ (by bv_omega)

/-! ### Rotations (R135, R139, R179) -/

/-- The low `q` bits put above the others: the bits move up by the number `r` of the others. -/
theorem extractLsb'_append_eq_rotateLeft {w q r : Nat} (hq : 0 < q) (h : q + r = w) (v : BitVec w) :
    (v.extractLsb' 0 q ++ v.extractLsb' q r).cast h = v.rotateLeft r := by
  subst h
  apply BitVec.eq_of_getLsbD_eq
  intro i hi
  rw [BitVec.getLsbD_cast, BitVec.getLsbD_append, BitVec.getLsbD_rotateLeft, Nat.mod_eq_of_lt (by omega : r < q + r)]
  by_cases hlow : i < r
  · simp [hlow]
  · have hup : i - r < q := by omega
    simp [hlow, hup, hi]

/-- A rotation to the left by `r` is one to the right by the number `q` of the other bits. -/
theorem rotateLeft_eq_rotateRight {w q r : Nat} (hq : 0 < q) (hr : 0 < r) (h : q + r = w) (v : BitVec w) :
    v.rotateLeft r = v.rotateRight q := by
  rw [BitVec.rotateLeft_def, BitVec.rotateRight_def, Nat.mod_eq_of_lt (by omega), Nat.mod_eq_of_lt (by omega),
    show w - r = q by omega, show w - q = r by omega, BitVec.or_comm]

theorem aluRr_eq (a b : Byte) : aluRr a b = .plain (b.rotateRight 1) := by
  rw [← rotateLeft_eq_rotateRight (r := 7) (by decide) (by decide) rfl]
  exact congrArg AluResult.plain (extractLsb'_append_eq_rotateLeft (q := 1) (r := 7) (by decide) rfl b)

theorem aluRl_eq (a b : Byte) : aluRl a b = .plain (b.rotateLeft 1) :=
  congrArg AluResult.plain (extractLsb'_append_eq_rotateLeft (q := 7) (r := 1) (by decide) rfl b)

theorem aluSwap_eq (a b : Byte) : aluSwap a b = .plain (b.rotateLeft 4) :=
  congrArg AluResult.plain (extractLsb'_append_eq_rotateLeft (q := 4) (r := 4) (by decide) rfl b)

/-! ### Rotations through carry on numbers (R137, R141) -/

/-- C comes in at the top and bit 0 goes out to C. -/
theorem aluRrc_eq (c : Bool) (a b : Byte) : aluRrc c a b =
    { value := BitVec.ofNat 8 (b.toNat / 2 + 128 * c.toNat), flags := .carry (b.getLsbD 0) } := by
  have value : BitVec.ofBool c ++ b.extractLsb' 1 7 = BitVec.ofNat 8 (b.toNat / 2 + 128 * c.toNat) := by
    have hc := c.toNat_le
    apply BitVec.eq_of_toNat_eq
    rw [toNat_append_eq_add, toNat_extractLsb'_eq, BitVec.toNat_ofBool, BitVec.toNat_ofNat]
    omega
  exact congrArg (AluResult.mk · _) value

/-- C comes in at the bottom and bit 7 goes out to C. -/
theorem aluRlc_eq (c : Bool) (a b : Byte) : aluRlc c a b =
    { value := BitVec.ofNat 8 (2 * b.toNat + c.toNat), flags := .carry (b.getLsbD 7) } := by
  have value : b.extractLsb' 0 7 ++ BitVec.ofBool c = BitVec.ofNat 8 (2 * b.toNat + c.toNat) := by
    have hc := c.toNat_le
    apply BitVec.eq_of_toNat_eq
    rw [toNat_append_eq_add, toNat_extractLsb'_eq, BitVec.toNat_ofBool, BitVec.toNat_ofNat]
    omega
  exact congrArg (AluResult.mk · _) value

/-! ### Results that write C alone, or no flag -/

/-- A result without flags leaves C as it was, one through carry writes it. -/
theorem State.memToAcc_carryInAcc (s : State) (m : Byte) {op : Byte → Byte → AluResult} {r : Byte} (c : Option Bool)
    (hop : op s.acc (s.fetched.memRead m) = { value := r, flags := { FlagUpdate.nothing with c := c } }) :
    CarryInAcc s r (c.getD s.flagC) (s.memToAcc m op) := by
  rw [State.memToAcc, hop]
  exact ⟨rfl, rfl, rfl, rfl, rfl⟩

theorem State.memToMem_carryStored {s : State} (m : Byte) {op : Byte → Byte → AluResult} {r : Byte} (c : Option Bool)
    (hop : op s.acc (s.fetched.memRead m) = { value := r, flags := { FlagUpdate.nothing with c := c } })
    (hw : Memory.wf s.ram = true) : StoresTo s m r true c none none none (s.memToMem m op) := by
  have h := State.memToMem_storesTo m op hw
  rw [hop] at h
  exact h

/-! ### The increment, decrement, rotate and swap instructions -/

/-- Settles O28: both write Z alone, taken from the result as computed. -/
theorem incrementDecrementInMemory : Obligations.IncrementDecrementInMemory := fun _ m hw =>
  ⟨⟨_, rfl, State.memToMem_zeroFlagStored m (aluInc_eq _ _) hw⟩,
    ⟨_, rfl, State.memToMem_zeroFlagStored m (aluDec_eq _ _) hw⟩⟩

/-- Settles O30: RR, RL and SWAP write no flag, RRC and RLC the bit that leaves the byte to C. -/
theorem rotateInMemory : Obligations.RotateInMemory := fun s m hw =>
  ⟨⟨_, rfl, State.memToMem_carryStored m none (aluRr_eq _ _) hw⟩,
    ⟨_, rfl, State.memToMem_carryStored m none (aluRl_eq _ _) hw⟩,
    ⟨_, rfl, State.memToMem_carryStored m (some _) (aluRrc_eq s.flagC _ _) hw⟩,
    ⟨_, rfl, State.memToMem_carryStored m (some _) (aluRlc_eq s.flagC _ _) hw⟩,
    ⟨_, rfl, State.memToMem_carryStored m none (aluSwap_eq _ _) hw⟩⟩

/-- Settles O27: the results are those of O28, and each word has its own operation code. -/
theorem incrementDecrementToAcc : Obligations.IncrementDecrementToAcc := fun s m =>
  ⟨⟨⟨_, rfl, s.memToAcc_accFromMemory m _, s.memToAcc_zeroFlagInAcc m (aluInc_eq _ _)⟩, Laws.wordMI_toNat 0x12#7 m⟩,
    ⟨⟨_, rfl, s.memToAcc_accFromMemory m _, s.memToAcc_zeroFlagInAcc m (aluDec_eq _ _)⟩, Laws.wordMI_toNat 0x14#7 m⟩⟩

/-- Settles O29: the results are those of O30, and each word has its own operation code. -/
theorem rotateToAcc : Obligations.RotateToAcc := fun s m =>
  ⟨⟨⟨_, rfl, s.memToAcc_accFromMemory m _, s.memToAcc_carryInAcc m none (aluRr_eq _ _)⟩, Laws.wordMI_toNat 0x16#7 m⟩,
    ⟨⟨_, rfl, s.memToAcc_accFromMemory m _, s.memToAcc_carryInAcc m none (aluRl_eq _ _)⟩, Laws.wordMI_toNat 0x1A#7 m⟩,
    ⟨⟨_, rfl, s.memToAcc_accFromMemory m _, s.memToAcc_carryInAcc m (some _) (aluRrc_eq s.flagC _ _)⟩,
      Laws.wordMI_toNat 0x18#7 m⟩,
    ⟨⟨_, rfl, s.memToAcc_accFromMemory m _, s.memToAcc_carryInAcc m (some _) (aluRlc_eq s.flagC _ _)⟩,
      Laws.wordMI_toNat 0x1C#7 m⟩,
    ⟨⟨_, rfl, s.memToAcc_accFromMemory m _, s.memToAcc_carryInAcc m none (aluSwap_eq _ _)⟩, Laws.wordMI_toNat 0x2B#7 m⟩⟩

end Sys2Proof.Machine
end

section
/-! PROOFS. The move and bit instructions (spec/43_move_bit.md R146 to R150) with CLR [m] and SET [m]
(spec/45_table_misc.md R174, R175): loads of ACC, stores of a byte that does not depend on `[m]`, and stores of the byte
read with one bit changed. -/

namespace Sys2Proof.Machine

/-! ### One bit of a byte (R149, R150) -/

/-- The mask of the bit instructions has bit `i` alone, and for `i` past the byte no bit at all. -/
theorem bitMask_getLsbD (i : Nat) {k : Nat} (hk : k < 8) : ((1 : Byte) <<< i).getLsbD k = decide (k = i) := by
  have mask : (1 : Byte) <<< i = BitVec.twoPow 8 i := rfl
  rw [mask, BitVec.getLsbD_twoPow, ← Bool.decide_and, decide_eq_decide]
  omega

theorem aluClrBit_getLsbD (i : Nat) (a b : Byte) {k : Nat} (hk : k < 8) :
    (aluClrBit i a b).value.getLsbD k = if k = i then false else b.getLsbD k := by
  have masked : (aluClrBit i a b).value.getLsbD k = (b.getLsbD k && !decide (k = i)) := by
    rw [← bitMask_getLsbD i hk]
    simp [aluClrBit, AluResult.plain, hk]
  rw [masked]
  by_cases h : k = i <;> simp [h]

theorem aluSetBit_getLsbD (i : Nat) (a b : Byte) {k : Nat} (hk : k < 8) :
    (aluSetBit i a b).value.getLsbD k = if k = i then true else b.getLsbD k := by
  have masked : (aluSetBit i a b).value.getLsbD k = (b.getLsbD k || decide (k = i)) := by
    rw [← bitMask_getLsbD i hk]
    exact BitVec.getLsbD_or
  rw [masked]
  by_cases h : k = i <;> simp [h]

/-! ### Results that write no flag -/

/-- A result without flags leaves the four flags as they were. -/
theorem State.immToAcc_carryInAcc (s : State) (x : Byte) {op : Byte → Byte → AluResult} {r : Byte}
    (hop : op s.acc x = .plain r) : CarryInAcc s r s.flagC (s.immToAcc x op) := by
  rw [State.immToAcc, hop]
  exact ⟨rfl, rfl, rfl, rfl, rfl⟩

/-! ### The move and bit instructions -/

/-- Settles O32: each stores its byte in the state after the fetch, in which no operand has been read. -/
theorem plainStores : Obligations.PlainStores := fun s m hw =>
  ⟨⟨_, rfl, State.store_storesTo m s.acc hw⟩, ⟨_, rfl, State.store_storesTo m 0x00#8 hw⟩,
    ⟨_, rfl, State.store_storesTo m 0xFF#8 hw⟩⟩

/-- Settles O33: both store a result without flags, and the mask of bit `i` says which bits of the byte read it keeps. -/
theorem bitStores : Obligations.BitStores := fun s m i hw _ =>
  ⟨⟨_, _, rfl, State.memToMem_carryStored m none rfl hw,
      fun _ hk => aluClrBit_getLsbD i s.acc (s.fetched.memRead m) hk⟩,
    ⟨_, _, rfl, State.memToMem_carryStored m none rfl hw,
      fun _ hk => aluSetBit_getLsbD i s.acc (s.fetched.memRead m) hk⟩⟩

/-- Settles O31: the operand itself is the result, and each word has its own operation code. -/
theorem loadAcc : Obligations.LoadAcc := fun s m =>
  ⟨⟨⟨_, rfl, s.memToAcc_accFromMemory m _, s.memToAcc_carryInAcc m none rfl⟩, Laws.wordMI_toNat 0x1E#7 m⟩,
    ⟨⟨_, rfl, s.immToAcc_accFromImmediate m _, s.immToAcc_carryInAcc m rfl⟩, Laws.wordMI_toNat 0x35#7 m⟩⟩

end Sys2Proof.Machine
end

section
/-! PROOFS. The branch instructions (spec/44_branch.md R155 to R168): jumps, calls and returns, which move the program counter
and the stack alone, and skips, which test a byte of data memory. -/

namespace Sys2Proof.Machine

/-! ### Frames -/

/-- No part of `RegisterFrame` is ACC, the program counter, the cycles, the stack, the low byte buffer or the blocking of a
timer's clock. -/
theorem RegisterFrame.of_control {s u : State} (h : u = { s with
    acc := u.acc, pc := u.pc, cyc := u.cyc, stk0 := u.stk0, stk1 := u.stk1, stk2 := u.stk2, stk3 := u.stk3, sp := u.sp
    lowbuf0 := u.lowbuf0, tmr0 := { s.tmr0 with blocked := u.tmr0.blocked }
    tmr1 := { s.tmr1 with blocked := u.tmr1.blocked } }) : RegisterFrame s u := by
  rw [h]
  exact ⟨⟨rfl, rfl, rfl, rfl⟩, ⟨rfl, rfl, rfl, rfl, rfl, rfl, rfl⟩, SameTimer.blocked _ _, SameTimer.blocked _ _,
    ⟨rfl, rfl, rfl, rfl, rfl, rfl, rfl, rfl⟩, ⟨rfl, rfl, rfl, rfl, rfl, rfl, rfl, rfl, rfl, rfl⟩, fun _ => rfl, rfl⟩

/-- After the fetch, only the program counter, the cycles and the stack are new. -/
theorem OnlyControl.of_fetched {s u : State} (h : u = { s.fetched with
    pc := u.pc, cyc := u.cyc, stk0 := u.stk0, stk1 := u.stk1, stk2 := u.stk2, stk3 := u.stk3, sp := u.sp }) :
    OnlyControl s u := by
  rw [h]
  exact ⟨rfl, ⟨rfl, rfl, rfl, rfl⟩, ⟨rfl, rfl, rfl, rfl, rfl⟩, rfl, .of_control rfl, ⟨rfl, rfl, rfl⟩⟩

/-- After the read of `[m]`, only ACC, the program counter and the cycles are new. -/
theorem OnlyTests.of_afterRead {s u : State} {m : Byte} (h : u = { s.fetched.afterRead m with
    acc := u.acc, pc := u.pc, cyc := u.cyc }) : OnlyTests s m u := by
  have read : s.fetched.afterRead m = s.beforeWrite m true := rfl
  rw [h, read, State.beforeWrite_eq]
  exact ⟨⟨rfl, rfl, rfl, rfl⟩, ⟨rfl, rfl, rfl, rfl, rfl⟩, rfl, ⟨rfl, rfl, rfl, rfl, rfl⟩, .of_control rfl,
    ⟨rfl, Bool.true_and _, Bool.true_and _⟩⟩

/-! ### The stack (10_state.md R25 to R27) -/

theorem SameStack.level {s t : State} (h : SameStack s t) (k : Nat) : t.level k = s.level k := by
  simp only [State.level, h.stk0, h.stk1, h.stk2, h.stk3]

/-- `Push(v)` fills the next level, or moves a full stack down by one (R26). -/
theorem State.push_pushed (s : State) (v : Addr) : Pushed s v (s.push v) := by
  rw [State.push_eq]
  match h : s.sp with
  | 0 | 1 | 2 | 3 =>
    refine ⟨by simp [h], fun _ k hk => ?_, fun full => by simp [h] at full⟩
    interval_cases k <;> simp [State.level, h]
  | 4 =>
    refine ⟨by simp [h], fun room => by simp [h] at room, fun _ k hk => ?_⟩
    interval_cases k <;> simp [State.level]

/-- `Pushed` speaks of the stack alone. -/
theorem Pushed.of_sameStack {r s t u : State} {v : Addr} (hr : SameStack r s) (h : Pushed s v t) (hu : SameStack t u) :
    Pushed r v u := by
  obtain ⟨depth, level, overflow⟩ := h
  simp only [hr.sp, hr.level, ← hu.sp, ← hu.level] at depth level overflow
  exact ⟨depth, level, overflow⟩

/-- The address to return to is the highest level that holds one (R27). -/
theorem State.top_eq_level {s : State} {a : Addr} (h : s.top = some a) : a = s.level (s.sp.val - 1) := by
  unfold State.top at h
  split at h
  · exact nomatch h
  all_goals next hsp => simpa [State.level, hsp] using h.symm

/-- A return from a stack that is not empty: `also` keeps the stack and the transfer, and `r` says what else it does
(44_branch.md R166 to R168). -/
theorem State.returnWith_popped {s r : State} {also : State → State} (hsp : s.sp ≠ 0)
    (hstack : ∀ u, SameStack u (also u)) (htransfer : ∀ u, (also u).pc = u.pc ∧ (also u).cyc = u.cyc)
    (hframe : ∀ d a, OnlyControl r (also { s.fetched with sp := d, pc := a, cyc := 2 })) :
    ∃ t, s.returnWith also = .next t ∧ Popped s t.pc t ∧ t.cyc = 2 ∧ OnlyControl r t := by
  obtain ⟨a, htop, hnext⟩ := State.returnWith_next also hsp
  have stack := hstack { s.fetched with sp := s.sp - 1, pc := a, cyc := 2 }
  obtain ⟨hpc, hcyc⟩ := htransfer { s.fetched with sp := s.sp - 1, pc := a, cyc := 2 }
  refine ⟨_, hnext, ⟨?_, ?_, stack.level⟩, hcyc, hframe _ _⟩
  · rw [stack.sp]; exact Fin.val_sub_one_of_ne_zero hsp
  · rw [hpc]; exact State.top_eq_level htop

/-! ### Skips (44_branch.md R155) -/

theorem zeroOf_iff (r : Byte) : zeroOf r = true ↔ r = 0#8 := decide_eq_true_iff

/-- One more is zero where the byte is FFH (R161, R163). -/
theorem zeroOf_add_one_iff (b : Byte) : zeroOf (b + 1) = true ↔ b = 0xFF#8 := by
  rw [zeroOf_iff]; bv_omega

/-- One less is zero where the byte is 01H (R162, R164). -/
theorem zeroOf_sub_one_iff (b : Byte) : zeroOf (b - 1) = true ↔ b = 0x01#8 := by
  rw [zeroOf_iff]; bv_omega

theorem State.skipIf_skipsWhen {s u : State} {b : Bool} {skip : Prop} (hnext : GoesOn s u) (hb : b = true ↔ skip) :
    SkipsWhen skip s (u.skipIf b) where
  taken h := by
    have two : s.pc + 1 + 1 = s.pc + 2 := by bv_omega
    rw [State.skipIf_pc, State.skipIf_cyc, hb.2 h, hnext.pc, hnext.cyc]
    exact ⟨two, rfl⟩
  not_taken h := by simp [mt hb.1 h, hnext.pc, hnext.cyc]

/-- The test alone. -/
theorem State.testAndSkip_skipsWhen (s : State) (m : Byte) {b : Bool} {skip : Prop} (hb : b = true ↔ skip) :
    SkipsWhen skip s ((s.fetched.afterRead m).skipIf b) :=
  State.skipIf_skipsWhen ⟨rfl, rfl⟩ hb

/-- The test of a byte that goes to ACC. -/
theorem State.accAndSkip_skipsWhen (s : State) (m : Byte) {op : Byte → Byte} {skip : Prop}
    (hskip : zeroOf (op (s.fetched.memRead m)) = true ↔ skip) : SkipsWhen skip s (s.accAndSkip m op) :=
  State.skipIf_skipsWhen ⟨rfl, rfl⟩ hskip

/-- A store to a cell that is not PCL goes on at the next word. -/
theorem StoresTo.goesOn {s t : State} {m v : Byte} {reads : Bool} {c ac z ov : Option Bool}
    (h : StoresTo s m v reads c ac z ov t) (hm : s.resolve m ≠ some 0x06#8) : GoesOn s t where
  pc := h.store.pc.trans (if_neg hm)
  cyc := h.cyc.trans (if_neg hm)

/-- The test of a byte that is stored in `[m]`; `r` is the result said in numbers. -/
theorem State.updateAndSkip_next {s : State} {m r : Byte} {op : Byte → Byte} {skip : Prop}
    (hw : Memory.wf s.ram = true) (hm : s.resolve m ≠ some 0x06#8) (hr : op (s.fetched.memRead m) = r)
    (hskip : zeroOf (op (s.fetched.memRead m)) = true ↔ skip) :
    ∃ t u, s.updateAndSkip m op = .next t ∧ SkipsWhen skip s t ∧ StoresTo s m r true none none none none u ∧
      t = { u with pc := t.pc, cyc := t.cyc } := by
  have stored : StoresTo s m r true none none none none ((s.fetched.afterRead m).memWrite m r) :=
    State.memWrite_storesTo m r true hw
  rw [hr] at hskip
  refine ⟨_, _, ?_, State.skipIf_skipsWhen (stored.goesOn hm) hskip, stored, rfl⟩
  rw [State.updateAndSkip, if_neg hm, hr]

/-- PCL as destination of a skip has no meaning (log 32). -/
theorem State.updateAndSkip_refused {s : State} {m : Byte} (op : Byte → Byte) (hm : s.resolve m = some 0x06#8) :
    s.updateAndSkip m op = .refused .skipWithPclDestination := if_pos hm

/-! ### The branch instructions -/

theorem exec_sizM (s : State) (m : Byte) : exec (.sizM m) s = s.updateAndSkip m (· + 1) := rfl

theorem exec_sdzM (s : State) (m : Byte) : exec (.sdzM m) s = s.updateAndSkip m (· - 1) := rfl

/-- Settles O37: a store to a cell that is not PCL goes on at the next word, which the skip then passes over. -/
theorem skipsWithStore : Obligations.SkipsWithStore := by
  intro s m hw
  rw [exec_sizM, exec_sdzM]
  refine ⟨fun hm => ⟨?_, ?_⟩, fun hm => ⟨State.updateAndSkip_refused _ hm, State.updateAndSkip_refused _ hm⟩⟩
  · exact State.updateAndSkip_next hw hm (congrArg AluResult.value (aluInc_eq 0 _)) (zeroOf_add_one_iff _)
  · exact State.updateAndSkip_next hw hm (congrArg AluResult.value (aluDec_eq 0 _)) (zeroOf_sub_one_iff _)

/-- Settles O34: the transfer follows the fetch at once. -/
theorem jump : Obligations.Jump := fun _ addr =>
  ⟨⟨_, rfl, rfl, rfl, ⟨rfl, rfl, rfl, rfl, rfl⟩, .of_fetched rfl⟩, Laws.wordJ_toNat 0#1 addr⟩

/-- Settles O36: the byte or the bit of `[m]` decides alone, and each word has its own operation code. -/
theorem skips : Obligations.Skips := fun s m =>
  ⟨⟨⟨_, rfl, s.testAndSkip_skipsWhen m (zeroOf_iff _), rfl, .of_afterRead rfl⟩, Laws.wordMI_toNat 0x20#7 m⟩,
    ⟨⟨_, rfl, s.accAndSkip_skipsWhen m (zeroOf_iff _), rfl, .of_afterRead rfl⟩, Laws.wordMI_toNat 0x21#7 m⟩,
    fun i hi => ⟨⟨_, rfl, s.testAndSkip_skipsWhen m (Bool.not_eq_true' _).to_iff, rfl, .of_afterRead rfl⟩,
      (Laws.wordB_toNat 2#2 i m).trans (by rw [Nat.mod_eq_of_lt hi]; rfl)⟩,
    fun i hi => ⟨⟨_, rfl, s.testAndSkip_skipsWhen m Iff.rfl, rfl, .of_afterRead rfl⟩,
      (Laws.wordB_toNat 3#2 i m).trans (by rw [Nat.mod_eq_of_lt hi]; rfl)⟩,
    ⟨⟨_, rfl, s.accAndSkip_skipsWhen m (zeroOf_add_one_iff _), congrArg AluResult.value (aluInc_eq 0 _),
      .of_afterRead rfl⟩, Laws.wordMI_toNat 0x24#7 m⟩,
    ⟨⟨_, rfl, s.accAndSkip_skipsWhen m (zeroOf_sub_one_iff _), congrArg AluResult.value (aluDec_eq 0 _),
      .of_afterRead rfl⟩, Laws.wordMI_toNat 0x25#7 m⟩⟩

/-- Settles O38: CALL is a push of the address after it, then a transfer. -/
theorem call : Obligations.Call := by
  intro s addr
  have fetched : SameStack s s.fetched := ⟨rfl, rfl, rfl, rfl, rfl⟩
  have pushed := s.fetched.push_pushed (s.pc + 1)
  refine ⟨⟨_, rfl, rfl, rfl, pushed.of_sameStack fetched ⟨rfl, rfl, rfl, rfl, rfl⟩, .of_fetched ?_⟩,
    Laws.wordJ_toNat 1#1 addr⟩
  rw [State.push_eq]; rfl

theorem exec_ret (s : State) : exec .ret s = s.returnWith id := rfl

theorem exec_retAX (s : State) (x : Byte) : exec (.retAX x) s = s.returnWith fun u => { u with acc := x } := rfl

theorem exec_reti (s : State) : exec .reti s = s.returnWith fun u => { u with emi := true } := rfl

/-- Settles O39: the three returns differ in what they do besides: nothing, ACC, EMI. -/
theorem returns : Obligations.Returns := by
  intro s x
  rw [exec_ret, exec_retAX, exec_reti]
  refine ⟨fun hsp => ⟨?_, ?_, ?_⟩,
    fun hsp => ⟨State.returnWith_empty _ hsp, State.returnWith_empty _ hsp, State.returnWith_empty _ hsp⟩⟩
  all_goals
    exact State.returnWith_popped hsp (fun _ => ⟨rfl, rfl, rfl, rfl, rfl⟩) (fun _ => ⟨rfl, rfl⟩)
      (fun _ _ => .of_fetched rfl)

end Sys2Proof.Machine
end

section
/-! PROOFS. The table read and miscellaneous instructions (spec/45_table_misc.md R170 to R181): what TABRDC and TABRDL read and
store, NOP, the watchdog instructions and HALT, and which instructions alone change TO and PD, the stack, and TBLH. -/

namespace Sys2Proof.Machine

/-! ### What only some instructions change (R170; spec/10_state.md R25, R34) -/

/-- TO and PD, the stack and TBLH are the same. -/
structure SameGuarded (s t : State) : Prop where
  timeOut : t.flagTO = s.flagTO ∧ t.flagPD = s.flagPD
  stack : SameStack s t
  tblh : t.tblh = s.tblh

theorem SameStack.trans {r s t : State} (h : SameStack r s) (g : SameStack s t) : SameStack r t :=
  ⟨g.stk0.trans h.stk0, g.stk1.trans h.stk1, g.stk2.trans h.stk2, g.stk3.trans h.stk3, g.sp.trans h.sp⟩

theorem SameGuarded.trans {r s t : State} (h : SameGuarded r s) (g : SameGuarded s t) : SameGuarded r t :=
  ⟨⟨g.timeOut.1.trans h.timeOut.1, g.timeOut.2.trans h.timeOut.2⟩, h.stack.trans g.stack, g.tblh.trans h.tblh⟩

/-- An update of other fields leaves all of it alone. -/
theorem SameGuarded.of_sameFields {s t : State} (flagTO : t.flagTO = s.flagTO := by rfl)
    (flagPD : t.flagPD = s.flagPD := by rfl) (stk0 : t.stk0 = s.stk0 := by rfl) (stk1 : t.stk1 = s.stk1 := by rfl)
    (stk2 : t.stk2 = s.stk2 := by rfl) (stk3 : t.stk3 = s.stk3 := by rfl) (sp : t.sp = s.sp := by rfl)
    (tblh : t.tblh = s.tblh := by rfl) : SameGuarded s t :=
  ⟨⟨flagTO, flagPD⟩, ⟨stk0, stk1, stk2, stk3, sp⟩, tblh⟩

/-- What is the same on the way to `u` is the same under the meaning that answers `u`. -/
theorem SameGuarded.of_next {s t u : State} (hu : SameGuarded s u) (h : (.next u : Result) = .next t) : SameGuarded s t :=
  Host.Outcome.next.inj h ▸ hu

theorem SameWatchdog.timeOut {s t : State} (h : SameWatchdog s t) : t.flagTO = s.flagTO ∧ t.flagPD = s.flagPD :=
  ⟨h.flagTO, h.flagPD⟩

theorem AccFrame.sameGuarded {s t : State} (h : AccFrame s t) : SameGuarded s t := ⟨h.watchdog.timeOut, h.stack, h.tblh⟩

theorem OnlyTests.sameGuarded {s t : State} {m : Byte} (h : OnlyTests s m t) : SameGuarded s t :=
  ⟨h.watchdog.timeOut, h.stack, h.tblh⟩

theorem State.fetched_sameStack (s : State) : SameStack s s.fetched := ⟨rfl, rfl, rfl, rfl, rfl⟩

theorem State.fetched_sameGuarded (s : State) : SameGuarded s s.fetched := .of_sameFields

theorem State.afterRead_sameGuarded (s : State) (m : Byte) : SameGuarded s (s.afterRead m) := .of_sameFields

theorem State.memWrite_sameGuarded (s : State) (m v : Byte) : SameGuarded s (s.memWrite m v) :=
  .of_sameFields (s.memWrite_flagTO m v) (s.memWrite_flagPD m v) (s.memWrite_stk0 m v) (s.memWrite_stk1 m v)
    (s.memWrite_stk2 m v) (s.memWrite_stk3 m v) (s.memWrite_sp m v) (s.memWrite_tblh m v)

theorem State.skipIf_sameGuarded (s : State) (skip : Bool) : SameGuarded s (s.skipIf skip) := .of_sameFields

theorem State.jumpTo_sameGuarded (s : State) (a : Addr) : SameGuarded s (s.jumpTo a) := .of_sameFields

/-- The flags of an instruction are C, AC, Z and OV alone. -/
theorem State.toMem_sameGuarded (s : State) (m : Byte) (r : AluResult) : SameGuarded s (s.toMem m r) := by
  have stored := s.memWrite_sameGuarded m r.value
  unfold State.toMem
  split
  · exact stored.trans .of_sameFields
  · exact stored.trans .of_sameFields

theorem State.memToMem_sameGuarded (s : State) (m : Byte) (op : Byte → Byte → AluResult) : SameGuarded s (s.memToMem m op) :=
  (s.fetched_sameGuarded.trans (State.afterRead_sameGuarded _ m)).trans (State.toMem_sameGuarded _ m _)

theorem State.storeFetched_sameGuarded (s : State) (m v : Byte) : SameGuarded s (s.fetched.memWrite m v) :=
  s.fetched_sameGuarded.trans (State.memWrite_sameGuarded _ m v)

theorem State.updateAndSkip_sameGuarded {s t : State} {m : Byte} {op : Byte → Byte} (h : s.updateAndSkip m op = .next t) :
    SameGuarded s t := by
  unfold State.updateAndSkip at h
  split at h
  · exact nomatch h
  · exact (((s.fetched_sameGuarded.trans (State.afterRead_sameGuarded _ m)).trans
      (State.memWrite_sameGuarded _ m _)).trans (State.skipIf_sameGuarded _ _)).of_next h

theorem exec_daaM_sameGuarded {s t : State} {m : Byte} (h : exec (.daaM m) s = .next t) : SameGuarded s t := by
  have picked : SameGuarded s.fetched s.fetched.afterDaaPick := .of_sameFields
  exact ((s.fetched_sameGuarded.trans picked).trans (State.toMem_sameGuarded _ m _)).of_next h

/-! ### Table reads (R170 to R172) -/

theorem exec_tabrdcM (s : State) (m : Byte) :
    exec (.tabrdcM m) s = .next (s.tableRead m ((s.pc + 1).extractLsb' 8 4 ++ s.tblp)) := rfl

theorem exec_tabrdlM (s : State) (m : Byte) : exec (.tabrdlM m) s = .next (s.tableRead m (0xF#4 ++ s.tblp)) := rfl

theorem State.tableRead_sameStack (s : State) (m : Byte) (a : Addr) : SameStack s (s.tableRead m a) := by
  have started : SameStack s { s.fetched with cyc := 2 } := ⟨rfl, rfl, rfl, rfl, rfl⟩
  have stored := started.trans (State.memWrite_sameGuarded _ m ((s.progRead a).extractLsb' 0 8)).stack
  exact stored.trans ⟨rfl, rfl, rfl, rfl, rfl⟩

theorem State.tableRead_timeOut (s : State) (m : Byte) (a : Addr) :
    (s.tableRead m a).flagTO = s.flagTO ∧ (s.tableRead m a).flagPD = s.flagPD :=
  (State.memWrite_sameGuarded { s.fetched with cyc := 2 } m ((s.progRead a).extractLsb' 0 8)).timeOut

/-- The page and the offset put together, as a number (R171). -/
theorem tableAddress_eq (page : BitVec 4) (offset : Byte) :
    page ++ offset = BitVec.ofNat 12 (256 * page.toNat + offset.toNat) := by
  have value : (page ++ offset).toNat = 256 * page.toNat + offset.toNat := toNat_append_eq_add page offset
  rw [← value, BitVec.ofNat_toNat, BitVec.setWidth_eq]

/-- The page of an address, as a number. -/
theorem page_toNat (a : Addr) : (a.extractLsb' 8 4).toNat = a.toNat / 256 := by
  rw [toNat_extractLsb'_eq]
  have := a.isLt
  omega

theorem lowByte_eq (w : Word) : w.extractLsb' 0 8 = BitVec.ofNat 8 w.toNat :=
  BitVec.eq_of_toNat_eq (by rw [toNat_extractLsb'_eq, BitVec.toNat_ofNat, pow_zero, Nat.div_one])

theorem highBits_toNat (w : Word) : (w.extractLsb' 8 7).toNat = w.toNat / 256 := by
  rw [toNat_extractLsb'_eq]
  have := w.isLt
  omega

/-- What a read of the word `w` stores, in numbers (R171). -/
theorem State.tableRead_word {s : State} {a : Addr} {w : Word} (m : Byte) (hw : Memory.wf s.ram = true)
    (ha : s.progRead a = w) :
    Stored s m (BitVec.ofNat 8 w.toNat) false (s.tableRead m a) ∧
      StatusWrite s m (BitVec.ofNat 8 w.toNat) none none none none (s.tableRead m a) ∧
      (s.tableRead m a).cyc = cyclesOfStore s m 2 ∧ (s.tableRead m a).tblh.toNat = w.toNat / 256 := by
  obtain ⟨store, status, cyc, tblh⟩ := State.tableRead_stores m a hw
  rw [ha, lowByte_eq] at store status
  exact ⟨store, status, cyc, by rw [tblh, ha, highBits_toNat]⟩

/-- Settles O41: the two differ in the page alone. -/
theorem tableReads : Obligations.TableReads := by
  intro s m w hw
  rw [exec_tabrdcM, exec_tabrdlM, tableAddress_eq, tableAddress_eq, page_toNat]
  exact ⟨fun hread => ⟨_, rfl, State.tableRead_word m hw hread⟩, fun hread => ⟨_, rfl, State.tableRead_word m hw hread⟩⟩

/-! ### NOP, the watchdog instructions, HALT (R173, R176 to R178, R181) -/

/-- Settles O35: NOP is the fetch alone. -/
theorem noOperation : Obligations.NoOperation := fun s =>
  ⟨⟨_, rfl, ⟨rfl, rfl⟩, s.fetched_sameStack, .of_fetched rfl⟩, rfl⟩

/-- Settles O43: HALT is the fetch and its four fields. -/
theorem halt : Obligations.Halt := fun _ =>
  ⟨⟨_, rfl, ⟨rfl, rfl⟩, ⟨rfl, rfl, rfl, rfl, rfl⟩, .of_fetched rfl⟩, rfl⟩

/-- The one-cycle type is active where the watchdog is enabled and OP9 = 1 (R176). -/
theorem State.oneCycleClear_inactive_iff (s : State) :
    (s.wdtDisabled || !s.oneCycleClear) = true ↔ ¬ (s.opt.getLsbD 13 = false ∧ s.opt.getLsbD 9 = true) := by
  unfold State.wdtDisabled State.oneCycleClear
  cases s.opt.getLsbD 13 <;> cases s.opt.getLsbD 9 <;> decide

theorem exec_clrWdt_active {s : State} (h : s.opt.getLsbD 13 = false ∧ s.opt.getLsbD 9 = true) :
    exec .clrWdt s = .next s.fetched.clearWatchdog :=
  congrArg Host.Outcome.next (if_neg fun inactive => s.oneCycleClear_inactive_iff.1 inactive h)

theorem exec_clrWdt_inactive {s : State} (h : ¬ (s.opt.getLsbD 13 = false ∧ s.opt.getLsbD 9 = true)) :
    exec .clrWdt s = .next s.fetched :=
  congrArg Host.Outcome.next (if_pos (s.oneCycleClear_inactive_iff.2 h))

theorem State.preclear_inactive {s : State} (h : s.opt.getLsbD 13 = true ∨ s.opt.getLsbD 9 = true) (other : Bool)
    (setOwn : State → State) : s.preclear other setOwn = s.fetched :=
  if_pos ((Bool.or_eq_true _ _).symm ▸ h)

theorem State.preclear_active {s : State} (h : ¬ (s.opt.getLsbD 13 = true ∨ s.opt.getLsbD 9 = true)) (other : Bool)
    (setOwn : State → State) : s.preclear other setOwn =
      if other then { s.fetched.clearWatchdog with wf1 := false, wf2 := false } else setOwn s.fetched :=
  if_neg ((Bool.or_eq_true _ _).symm ▸ h)

/-- One of the pair CLR WDT1 and CLR WDT2: `other` is the flag of the other one, and `setOwn`, which sets the own flag, is a
change to `r` (R177, R178). -/
theorem State.preclear_frame {s r : State} (other : Bool) {setOwn : State → State} (hnext : GoesOn s (setOwn s.fetched))
    (hstack : SameStack s (setOwn s.fetched)) (hown : OnlyControl r (setOwn s.fetched)) :
    GoesOn s (s.preclear other setOwn) ∧ SameStack s (s.preclear other setOwn) ∧
      if s.opt.getLsbD 13 = true ∨ s.opt.getLsbD 9 = true then OnlyControl s (s.preclear other setOwn)
      else if other = true then
        OnlyControl { s with wdt := 0, flagPD := false, flagTO := false, wf1 := false, wf2 := false }
          (s.preclear other setOwn)
      else OnlyControl r (s.preclear other setOwn) := by
  by_cases inactive : s.opt.getLsbD 13 = true ∨ s.opt.getLsbD 9 = true
  · rw [if_pos inactive, State.preclear_inactive inactive]
    exact ⟨⟨rfl, rfl⟩, s.fetched_sameStack, .of_fetched rfl⟩
  · rw [if_neg inactive, State.preclear_active inactive]
    cases other with
    | true => exact ⟨⟨rfl, rfl⟩, ⟨rfl, rfl, rfl, rfl, rfl⟩, .of_fetched rfl⟩
    | false => exact ⟨hnext, hstack, hown⟩

/-- Settles O42: by which type is active, and for the pair by the other one's flag. -/
theorem watchdogInstructions : Obligations.WatchdogInstructions := by
  refine fun s => ⟨?_, ?_, ?_⟩
  · by_cases active : s.opt.getLsbD 13 = false ∧ s.opt.getLsbD 9 = true
    · refine ⟨_, exec_clrWdt_active active, ⟨rfl, rfl⟩, ⟨rfl, rfl, rfl, rfl, rfl⟩, ?_⟩
      rw [if_pos active]
      exact .of_fetched rfl
    · refine ⟨_, exec_clrWdt_inactive active, ⟨rfl, rfl⟩, s.fetched_sameStack, ?_⟩
      rw [if_neg active]
      exact .of_fetched rfl
  · exact ⟨_, rfl, State.preclear_frame s.wf2 ⟨rfl, rfl⟩ ⟨rfl, rfl, rfl, rfl, rfl⟩ (.of_fetched rfl)⟩
  · exact ⟨_, rfl, State.preclear_frame s.wf1 ⟨rfl, rfl⟩ ⟨rfl, rfl, rfl, rfl, rfl⟩ (.of_fetched rfl)⟩

/-! ### The whole instruction set -/

/-- An instruction that leaves all three alone meets the statement whatever it excepts. -/
theorem SameGuarded.only {s t : State} {P Q R : Prop} (h : SameGuarded s t) :
    (P → t.flagTO = s.flagTO ∧ t.flagPD = s.flagPD) ∧ (Q → SameStack s t) ∧ (R → t.tblh = s.tblh) :=
  ⟨fun _ => h.timeOut, fun _ => h.stack, fun _ => h.tblh⟩

theorem exec_call_guarded {s t : State} {a : Addr} (h : exec (.call a) s = .next t) :
    (t.flagTO = s.flagTO ∧ t.flagPD = s.flagPD) ∧ t.tblh = s.tblh := by
  obtain ⟨⟨u, hu, -, -, -, frame⟩, -⟩ := call s a
  obtain rfl := Host.Outcome.next.inj (hu.symm.trans h)
  exact ⟨frame.watchdog.timeOut, frame.tblh⟩

/-- The three returns, with what each does besides. -/
theorem State.returnWith_guarded {s t : State} {also : State → State} (halso : ∀ u, SameGuarded u (also u))
    (h : s.returnWith also = .next t) : (t.flagTO = s.flagTO ∧ t.flagPD = s.flagPD) ∧ t.tblh = s.tblh := by
  obtain ⟨-, a, -, rfl⟩ := State.returnWith_inv h
  have same := halso { s.fetched with sp := s.sp - 1, pc := a, cyc := 2 }
  exact ⟨same.timeOut, same.tblh⟩

/-- CLR WDT1 and CLR WDT2 leave the stack and TBLH alone. -/
theorem State.preclear_stackAndTblh (s : State) (other : Bool) {setOwn : State → State}
    (hown : ∀ u, SameGuarded u (setOwn u)) :
    SameStack s (s.preclear other setOwn) ∧ (s.preclear other setOwn).tblh = s.tblh := by
  unfold State.preclear
  split
  · exact ⟨s.fetched_sameStack, rfl⟩
  · split
    · exact ⟨⟨rfl, rfl, rfl, rfl, rfl⟩, rfl⟩
    · have own := s.fetched_sameGuarded.trans (hown s.fetched)
      exact ⟨own.stack, own.tblh⟩

theorem exec_clrWdt_stackAndTblh {s t : State} (h : exec .clrWdt s = .next t) : SameStack s t ∧ t.tblh = s.tblh := by
  by_cases active : s.opt.getLsbD 13 = false ∧ s.opt.getLsbD 9 = true
  · obtain rfl := Host.Outcome.next.inj ((exec_clrWdt_active active).symm.trans h)
    exact ⟨⟨rfl, rfl, rfl, rfl, rfl⟩, rfl⟩
  · obtain rfl := Host.Outcome.next.inj ((exec_clrWdt_inactive active).symm.trans h)
    exact ⟨s.fetched_sameStack, rfl⟩

/-- Settles O12: every instruction that no clause excepts leaves all three alone, and each of the others two of them. -/
theorem onlyTheseChange : Obligations.OnlyTheseChange := by
  intro i s t h
  cases i
  case addAM m | adcAM m | subAM m | sbcAM m | andAM m | orAM m | xorAM m | cplaM m | incaM m | decaM m | rraM m | rrcaM m
      | rlaM m | rlcaM m | movAM m | swapaM m =>
    exact ((s.memToAcc_frame m _).1.sameGuarded.of_next h).only
  case addmAM m | adcmAM m | submAM m | sbcmAM m | andmAM m | ormAM m | xormAM m | cplM m | incM m | decM m | rrM m
      | rrcM m | rlM m | rlcM m | swapM m =>
    exact ((s.memToMem_sameGuarded m _).of_next h).only
  case clrMI m k | setMI m k => exact ((s.memToMem_sameGuarded m _).of_next h).only
  case addAX x | subAX x | andAX x | orAX x | xorAX x | movAX x =>
    exact ((s.immToAcc_frame x _).1.sameGuarded.of_next h).only
  case daaM m => exact (exec_daaM_sameGuarded h).only
  case movMA m | clrM m | setM m => exact ((s.storeFetched_sameGuarded m _).of_next h).only
  case szM m | szaM m | sizaM m | sdzaM m => exact ((OnlyTests.of_afterRead (m := m) rfl).sameGuarded.of_next h).only
  case szMI m k | snzMI m k => exact ((OnlyTests.of_afterRead (m := m) rfl).sameGuarded.of_next h).only
  case sizM m => exact (State.updateAndSkip_sameGuarded ((exec_sizM s m).symm.trans h)).only
  case sdzM m => exact (State.updateAndSkip_sameGuarded ((exec_sdzM s m).symm.trans h)).only
  case jmp a =>
    exact ((s.fetched_sameGuarded.trans (State.jumpTo_sameGuarded _ a)).of_next h).only
  case nop => exact (s.fetched_sameGuarded.of_next h).only
  case call a =>
    obtain ⟨timeOut, tblh⟩ := exec_call_guarded h
    exact ⟨fun _ => timeOut, fun ⟨hcall, _⟩ => absurd rfl (hcall a), fun _ => tblh⟩
  case ret =>
    obtain ⟨timeOut, tblh⟩ := State.returnWith_guarded (also := id) (fun _ => .of_sameFields) h
    exact ⟨fun _ => timeOut, fun ⟨_, hret, _, _⟩ => absurd rfl hret, fun _ => tblh⟩
  case retAX x =>
    obtain ⟨timeOut, tblh⟩ := State.returnWith_guarded (also := fun u => { u with acc := x }) (fun _ => .of_sameFields) h
    exact ⟨fun _ => timeOut, fun ⟨_, _, hret, _⟩ => absurd rfl (hret x), fun _ => tblh⟩
  case reti =>
    obtain ⟨timeOut, tblh⟩ := State.returnWith_guarded (also := fun u => { u with emi := true }) (fun _ => .of_sameFields) h
    exact ⟨fun _ => timeOut, fun ⟨_, _, _, hreti⟩ => absurd rfl hreti, fun _ => tblh⟩
  case tabrdcM m =>
    obtain rfl := Host.Outcome.next.inj h
    exact ⟨fun _ => s.tableRead_timeOut m _, fun _ => s.tableRead_sameStack m _, fun ⟨htab, _⟩ => absurd rfl (htab m)⟩
  case tabrdlM m =>
    obtain rfl := Host.Outcome.next.inj h
    exact ⟨fun _ => s.tableRead_timeOut m _, fun _ => s.tableRead_sameStack m _, fun ⟨_, htab⟩ => absurd rfl (htab m)⟩
  case clrWdt =>
    obtain ⟨stack, tblh⟩ := exec_clrWdt_stackAndTblh h
    exact ⟨fun ⟨hclr, _⟩ => absurd rfl hclr, fun _ => stack, fun _ => tblh⟩
  case clrWdt1 =>
    obtain rfl := Host.Outcome.next.inj h
    obtain ⟨stack, tblh⟩ := s.preclear_stackAndTblh s.wf2 (setOwn := fun u => { u with wf1 := true }) fun _ => .of_sameFields
    exact ⟨fun ⟨_, hclr, _⟩ => absurd rfl hclr, fun _ => stack, fun _ => tblh⟩
  case clrWdt2 =>
    obtain rfl := Host.Outcome.next.inj h
    obtain ⟨stack, tblh⟩ := s.preclear_stackAndTblh s.wf1 (setOwn := fun u => { u with wf2 := true }) fun _ => .of_sameFields
    exact ⟨fun ⟨_, _, hclr, _⟩ => absurd rfl hclr, fun _ => stack, fun _ => tblh⟩
  case halt =>
    obtain rfl := Host.Outcome.next.inj h
    exact ⟨fun ⟨_, _, _, hhalt⟩ => absurd rfl hhalt, fun _ => ⟨rfl, rfl, rfl, rfl, rfl⟩, fun _ => rfl⟩

end Sys2Proof.Machine
end

section
/-! PROOFS. Where an instruction stops (spec/60_exceptions.md R183, R184; logs 24, 32). -/

namespace Sys2Proof.Machine

/-- A return answers a next state exactly where the stack holds an address (10_state.md R27). -/
theorem State.returnWith_next_iff (s : State) (also : State → State) :
    (∃ t, s.returnWith also = .next t) ↔ s.sp ≠ 0 := by
  constructor
  · rintro ⟨t, h⟩
    exact (State.returnWith_inv h).1
  · intro h
    obtain ⟨a, -, hnext⟩ := State.returnWith_next also h
    exact ⟨_, hnext⟩

/-- SIZ and SDZ answer a next state exactly where `[m]` is not PCL (44_branch.md R161, R162). -/
theorem State.updateAndSkip_next_iff (s : State) (m : Byte) (op : Byte → Byte) :
    (∃ t, s.updateAndSkip m op = .next t) ↔ s.resolve m ≠ some 0x06#8 := by
  constructor
  · rintro ⟨t, h⟩ hm
    rw [State.updateAndSkip_refused op hm] at h
    exact nomatch h
  · exact fun hm => ⟨_, if_neg hm⟩

/-- Settles O13: only the returns and the skips with a store have a path that stops. -/
theorem instructionsStopExactlyHere : Obligations.InstructionsStopExactlyHere := by
  intro i s
  cases i
  case ret => simp [exec_ret, State.returnWith_next_iff]
  case retAX x => simp [exec_retAX, State.returnWith_next_iff]
  case reti => simp [exec_reti, State.returnWith_next_iff]
  case sizM m => simp [exec_sizM, State.updateAndSkip_next_iff]
  case sdzM m => simp [exec_sdzM, State.updateAndSkip_next_iff]
  all_goals exact iff_of_true ⟨_, rfl⟩ (by simp)

end Sys2Proof.Machine
end

section
/-! PROOFS. What a port reads as (spec/60_exceptions.md R231). -/

namespace Sys2Proof.Machine

/-- Each line of a port is read by its own control bit. -/
theorem portRead_getLsbD (control pad latch : Byte) {i : Nat} (hi : i < 8) :
    (portRead control pad latch).getLsbD i = if control.getLsbD i then pad.getLsbD i else latch.getLsbD i := by
  rw [portRead, BitVec.getLsbD_or, BitVec.getLsbD_and, BitVec.getLsbD_and, BitVec.getLsbD_not, decide_eq_true hi]
  cases control.getLsbD i <;> simp

/-- Settles O16: the four port addresses are the reads of the four ports. -/
theorem portsRead : Obligations.PortsRead := fun _ _ hi =>
  ⟨portRead_getLsbD _ _ _ hi, portRead_getLsbD _ _ _ hi, portRead_getLsbD _ _ _ hi, portRead_getLsbD _ _ _ hi⟩

end Sys2Proof.Machine
end

section
/-! PROOFS. Interrupts (spec/60_exceptions.md R185 to R194): which source is acknowledged, and its entry. -/

namespace Sys2Proof.Machine

/-! ### Acknowledgement (R189, R191) -/

/-- The stack is not full (10_state.md R28). -/
theorem State.sp_ne_full_iff (s : State) : s.sp ≠ 4 ↔ s.sp.val < 4 := by
  rw [Ne, Fin.ext_iff]
  have := s.sp.isLt
  change s.sp.val ≠ 4 ↔ _
  omega

theorem State.canAcknowledge_external (s : State) :
    s.canAcknowledge .external = true ↔ s.emi = true ∧ s.eei = true ∧ s.eif = true ∧ s.sp.val < 4 := by
  simp [State.canAcknowledge, ← s.sp_ne_full_iff, and_assoc]

theorem State.canAcknowledge_timer0 (s : State) :
    s.canAcknowledge .timer0 = true ↔ s.emi = true ∧ s.et0i = true ∧ s.t0f = true ∧ s.sp.val < 4 := by
  simp [State.canAcknowledge, ← s.sp_ne_full_iff, and_assoc]

theorem State.canAcknowledge_timer1 (s : State) :
    s.canAcknowledge .timer1 = true ↔ s.emi = true ∧ s.et1i = true ∧ s.t1f = true ∧ s.sp.val < 4 := by
  simp [State.canAcknowledge, ← s.sp_ne_full_iff, and_assoc]

/-- Nothing is acknowledged exactly when no source can be. -/
theorem State.acknowledged_eq_none_iff (s : State) : s.acknowledged = none ↔ ∀ k, s.canAcknowledge k = false := by
  constructor
  · intro h k
    unfold State.acknowledged at h
    split_ifs at h with external timer0 timer1
    cases k <;> exact Bool.eq_false_iff.2 ‹_›
  · intro h
    simp [State.acknowledged, h]

/-- Settles O44: the priority is the order in which the sources are asked. -/
theorem acknowledgeByPriority : Obligations.AcknowledgeByPriority := by
  intro s
  refine ⟨s.canAcknowledge_external, s.canAcknowledge_timer0, s.canAcknowledge_timer1, ?_, ?_, ?_, fun hfull => ?_⟩
  case refine_4 =>
    rw [State.acknowledged_eq, if_neg fun room => absurd hfull (s.sp_ne_full_iff.1 room.2).ne]
  all_goals
    unfold State.acknowledged
    split_ifs <;> simp_all

/-! ### Entry (R190, R192, R194) -/

/-- The entry pushes the program counter, and leaves everything but the vector, EMI and one request alone. -/
theorem State.interruptEntry_taken (s : State) (k : Source) : InterruptTaken s k (s.interruptEntry k) := by
  have pushed : Pushed s s.pc (s.interruptEntry k) :=
    (s.push_pushed s.pc).of_sameStack ⟨rfl, rfl, rfl, rfl, rfl⟩ ⟨rfl, rfl, rfl, rfl, rfl⟩
  rw [State.interruptEntry_eq, State.push_eq] at pushed ⊢
  exact {
    pushed := pushed
    pc := by cases k <;> rfl
    emi := rfl
    enables := ⟨rfl, rfl, rfl⟩
    requests := by cases k <;> simp
    cycles := Nat.succ_pos _
    acc := rfl
    flags := ⟨rfl, rfl, rfl, rfl⟩
    watchdog := ⟨rfl, rfl, rfl, rfl, rfl⟩
    tblh := rfl
    pointers := ⟨rfl, rfl, rfl, rfl⟩
    timer0 := .blocked _ _
    timer1 := .blocked _ _
    lowbuf0 := rfl
    ports := ⟨rfl, rfl, rfl, rfl, rfl, rfl, rfl, rfl⟩
    world := ⟨rfl, rfl, rfl, rfl, rfl, rfl, rfl, rfl, rfl, rfl⟩
    ram := fun _ => rfl }

/-- A source that is acknowledged takes the step (R201 step 4). -/
theorem State.runCycle_of_acknowledged {s : State} {k : Source} (h : s.acknowledged = some k) (e : Encoding)
    (inp : Input) : s.runCycle e inp = (s.interruptEntry k).finish inp s := by
  simp only [State.runCycle, h]

/-- Settles O45: acknowledgement does not depend on the inputs still to come. -/
theorem interruptEntry : Obligations.InterruptEntry := by
  intro s k hopt hpower hres hawake hack
  refine ⟨_, s.inputTaken.interruptEntry_taken k, ?_⟩
  exact (State.cycle_of_awake hopt hpower hres hawake specEncoding).trans
    (State.runCycle_of_acknowledged (s := s.inputTaken) hack specEncoding s.input)

end Sys2Proof.Machine
end

section
/-! PROOFS. The timer/event counters (spec/60_exceptions.md R220 to R228): counting with reload in closed form, then what
cycles and the edges at a timer's input do in each mode. -/

namespace Sys2Proof.Machine

/-! ### Counting with reload (R225) -/

@[simp] theorem countUp_zero {w : Nat} (pre c : BitVec w) : countUp pre 0 c = (c, false) := rfl

/-- A count at the last value reloads and overflows. -/
theorem countUp_succ_allOnes {w : Nat} (pre : BitVec w) (n : Nat) :
    countUp pre (n + 1) (BitVec.allOnes w) = ((countUp pre n pre).1, true) := by
  simp [countUp]

/-- A count at another value is an increment. -/
theorem countUp_succ_of_ne {w : Nat} (pre : BitVec w) (n : Nat) {c : BitVec w} (h : c ≠ BitVec.allOnes w) :
    countUp pre (n + 1) c = countUp pre n (c + 1) := by
  simp [countUp, h]

/-- An increment below the last value does not wrap. -/
theorem toNat_add_one_of_ne_allOnes {w : Nat} {c : BitVec w} (h : c ≠ BitVec.allOnes w) :
    (c + 1).toNat = c.toNat + 1 := by
  have hne : c.toNat ≠ 2 ^ w - 1 := fun e => h (BitVec.eq_of_toNat_eq (by rw [e, BitVec.toNat_allOnes]))
  have hlt := c.isLt
  have hone : BitVec.toNat (1 : BitVec w) = 1 % 2 ^ w := rfl
  rw [BitVec.toNat_add, hone, Nat.add_mod_mod, Nat.mod_eq_of_lt (by omega)]

/-- Settles O56: by induction on the counts; an overflow starts over from the preload value, one period later. -/
theorem countsAndReloads : Obligations.CountsAndReloads := by
  intro w n pre c
  have hpre := pre.isLt
  induction n generalizing c with
  | zero => exact ⟨fun _ => ⟨rfl, rfl⟩, fun h => absurd c.isLt (by simpa using h)⟩
  | succ n ih =>
    by_cases hlast : c = BitVec.allOnes w
    · subst hlast
      obtain ⟨below, beyond⟩ := ih pre
      have hc : (BitVec.allOnes w).toNat + (n + 1) = 2 ^ w + n := by
        rw [BitVec.toNat_allOnes]; omega
      rw [countUp_succ_allOnes, hc]
      refine ⟨fun h => by omega, fun _ => ⟨?_, rfl⟩⟩
      rw [Nat.add_sub_cancel_left]
      by_cases h : pre.toNat + n < 2 ^ w
      · rw [(below h).1, Nat.mod_eq_of_lt (by omega)]
      · rw [(beyond (by omega)).1, Nat.mod_eq_sub_mod (show n ≥ 2 ^ w - pre.toNat by omega)]
        congr 2
        omega
    · have := ih (c + 1)
      rwa [toNat_add_one_of_ne_allOnes hlast, Nat.add_right_comm, Nat.add_assoc, ← countUp_succ_of_ne pre n hlast] at this

end Sys2Proof.Machine
end

section
/-! PROOFS. A timer/event counter in the time of an instruction (spec/60_exceptions.md R220 to R225, R228): what one level at its
input does, what a list of levels does, up to the first edge that the timer waits for and from there on, and what the cycles
and the levels of an instruction do together (`TimerPassed`). -/

namespace Sys2Proof.Machine

/-! ### One level at a timer's input (R223, R224) -/

/-- The level to which the timer waits for an edge: event count mode for its active edge (R223), an armed pulse width
measurement for the start edge and one that counts for the opposite edge (R224). -/
def Timer.awaited {w : Nat} (t : Timer w) : Option Bool :=
  match t.mode, t.phase with
  | .eventCount, _ => some (!t.te)
  | .pulseWidth, .armed => some t.te
  | .pulseWidth, .counting => some (!t.te)
  | _, _ => none

theorem Timer.awaited_eventCount {w : Nat} {t : Timer w} (h : t.mode = .eventCount) : t.awaited = some (!t.te) := by
  simp [Timer.awaited, h]

theorem Timer.awaited_timer {w : Nat} {t : Timer w} (h : t.mode = .timer) : t.awaited = none := by
  simp [Timer.awaited, h]

theorem Timer.awaited_armed {w : Nat} {t : Timer w} (h : t.mode = .pulseWidth) (hp : t.phase = .armed) :
    t.awaited = some t.te := by
  simp [Timer.awaited, h, hp]

theorem Timer.awaited_counting {w : Nat} {t : Timer w} (h : t.mode = .pulseWidth) (hp : t.phase = .counting) :
    t.awaited = some (!t.te) := by
  simp [Timer.awaited, h, hp]

theorem Timer.awaited_idle {w : Nat} {t : Timer w} (h : t.mode = .pulseWidth) (hp : t.phase = .idle) : t.awaited = none := by
  simp [Timer.awaited, h, hp]

/-- A level that brings no edge the timer waits for does nothing. -/
theorem Timer.inputEdge_unawaited {w : Nat} {t : Timer w} {old now : Bool} (h : ¬ (old ≠ now ∧ t.awaited = some now))
    (run pulse : Bool) : t.inputEdge run pulse old now = (t, false) := by
  by_cases hedge : old = now
  · rw [hedge, Timer.inputEdge_level]
  · have away : ∀ {level : Bool}, t.awaited = some level → now ≠ level := fun e hnow => h ⟨hedge, hnow ▸ e⟩
    unfold Timer.inputEdge
    split
    · split
      · next hm => rw [if_neg (away (Timer.awaited_eventCount hm))]
      · next hm =>
        split
        · next hp => simp [away (Timer.awaited_armed hm hp)]
        · next hp => simp [away (Timer.awaited_counting hm hp)]
        · rfl
      · rfl
    · rfl

/-- An active edge in event count mode is one count (R223). -/
theorem Timer.inputEdge_eventCount {w : Nat} {t : Timer w} (h : t.mode = .eventCount) (pulse : Bool) :
    t.inputEdge true pulse t.te (!t.te) = t.countEvent := by
  simp [Timer.inputEdge, h]

/-- The start edge makes an armed measurement count (R224). -/
theorem Timer.inputEdge_armed {w : Nat} {t : Timer w} (h : t.mode = .pulseWidth) (hp : t.phase = .armed) :
    t.inputEdge true true (!t.te) t.te = ({ t with phase := .counting }, false) := by
  simp [Timer.inputEdge, h, hp]

/-- The opposite edge ends a measurement and turns the timer off (R224). -/
theorem Timer.inputEdge_counting {w : Nat} {t : Timer w} (h : t.mode = .pulseWidth) (hp : t.phase = .counting) :
    t.inputEdge true true t.te (!t.te) = ({ t with ton := false, phase := .idle }, false) := by
  simp [Timer.inputEdge, h, hp]

/-! ### Levels in turn -/

/-- An edge to `now` is an edge from the other level. -/
theorem edgesTo_not_le (now old : Bool) (levels : List Bool) :
    edgesTo (!now) old levels ≤ (decide (old = now)).toNat + edgesTo now old levels := by
  induction levels generalizing old with
  | nil => exact Nat.zero_le _
  | cons level rest ih =>
    have := ih level
    cases now <;> cases old <;> cases level <;> simp_all [edgesTo]

/-- The level at a timer's input, which was `old`, takes the levels of a list in turn while the machine is awake. -/
def Timer.passLevels {w : Nat} (run : Bool) : Bool → List Bool → Timer w → Timer w × Bool
  | _, [], t => (t, false)
  | old, level :: rest, t =>
    ((Timer.passLevels run level rest (t.inputEdge run true old level).1).1,
      (t.inputEdge run true old level).2 || (Timer.passLevels run level rest (t.inputEdge run true old level).1).2)

/-- A level without an edge the timer waits for can be left out. -/
theorem Timer.passLevels_cons_unawaited {w : Nat} {t : Timer w} {old level : Bool}
    (h : ¬ (old ≠ level ∧ t.awaited = some level)) (run : Bool) (rest : List Bool) :
    t.passLevels run old (level :: rest) = t.passLevels run level rest := by
  simp [Timer.passLevels, Timer.inputEdge_unawaited h]

theorem Timer.passLevels_moved {w : Nat} (run old : Bool) (levels : List Bool) (t : Timer w) :
    TimerMoved t (t.passLevels run old levels).1 := by
  induction levels generalizing old t with
  | nil => exact .refl t
  | cons level rest ih => exact (t.inputEdge_moved run true old level).trans (ih _ _)

theorem Timer.passLevels_off {w : Nat} (old : Bool) (levels : List Bool) (t : Timer w) :
    t.passLevels false old levels = (t, false) := by
  induction levels generalizing old with
  | nil => rfl
  | cons level rest ih => simp [Timer.passLevels, Timer.inputEdge_off, ih]

/-- Without an edge the timer waits for, the levels do nothing. -/
theorem Timer.passLevels_noEdge {w : Nat} {t : Timer w} {old : Bool} {levels : List Bool}
    (h : ∀ now, t.awaited = some now → edgesTo now old levels = 0) (run : Bool) :
    t.passLevels run old levels = (t, false) := by
  induction levels generalizing old with
  | nil => rfl
  | cons level rest ih =>
    have unawaited : ¬ (old ≠ level ∧ t.awaited = some level) := fun ⟨hedge, hlevel⟩ => by
      have := h level hlevel
      rw [edgesTo_edge rest hedge] at this
      omega
    rw [Timer.passLevels_cons_unawaited unawaited]
    refine ih fun now hnow => ?_
    rw [← h now hnow, edgesTo_noEdge]
    rintro ⟨hedge, rfl⟩
    exact unawaited ⟨hedge, hnow⟩

theorem Timer.passLevels_noAwaitedEdge {w : Nat} {t : Timer w} {now old : Bool} {levels : List Bool}
    (hnow : t.awaited = some now) (h : edgesTo now old levels = 0) (run : Bool) :
    t.passLevels run old levels = (t, false) :=
  Timer.passLevels_noEdge (fun _ e => Option.some.inj (hnow.symm.trans e) ▸ h) run

/-- Levels up to the first edge the timer waits for do nothing; that edge does what it does, and the rest follows. If the
level was `now` at first, there has been one edge away from it before. -/
theorem Timer.passLevels_firstEdge {w : Nat} {t : Timer w} {now old : Bool} {levels : List Bool} (hnow : t.awaited = some now)
    (h : 0 < edgesTo now old levels) (run : Bool) :
    ∃ rest, edgesTo now old levels = edgesTo now now rest + 1 ∧
      edgesTo (!now) old levels = (decide (old = now)).toNat + edgesTo (!now) now rest ∧
      t.passLevels run old levels = (((t.inputEdge run true (!now) now).1.passLevels run now rest).1,
        (t.inputEdge run true (!now) now).2 || ((t.inputEdge run true (!now) now).1.passLevels run now rest).2) := by
  induction levels generalizing old with
  | nil => exact absurd h (Nat.lt_irrefl 0)
  | cons level rest ih =>
    by_cases hedge : old ≠ level ∧ level = now
    · obtain ⟨hne, rfl⟩ := hedge
      obtain rfl : old = !level := Bool.eq_not_of_ne hne
      refine ⟨rest, edgesTo_edge rest hne, ?_, rfl⟩
      rw [edgesTo_noEdge rest (by simp)]
      simp
    · have unawaited : ¬ (old ≠ level ∧ t.awaited = some level) := by
        rw [hnow, Option.some.injEq, eq_comm (a := now)]; exact hedge
      rw [edgesTo_noEdge rest hedge] at h ⊢
      obtain ⟨rest', same, opposite, passed⟩ := ih h
      refine ⟨rest', same, ?_, (Timer.passLevels_cons_unawaited unawaited run rest).trans passed⟩
      by_cases hold : old = level
      · rw [hold, edgesTo_noEdge rest (by simp), opposite]
      · obtain rfl : level = !now := Bool.eq_not_of_ne fun e => hedge ⟨hold, e⟩
        obtain rfl : old = now := by simpa using hold
        rw [edgesTo_edge rest hold, opposite]
        simp [Nat.add_comm]

/-! ### The modes (R222 to R224) -/

theorem Timer.lostCounts_le {w : Nat} (t : Timer w) : t.lostCounts ≤ 1 := Bool.toNat_le _

/-- Only a read of the counter costs a count (R228; log 13). -/
theorem Timer.lostCounts_of_notBlocked {w : Nat} {t : Timer w} (h : t.blocked = false) : t.lostCounts = 0 := by
  simp [Timer.lostCounts, h]

theorem Timer.onInstructionClock_iff {w : Nat} (t : Timer w) :
    t.onInstructionClock = true ↔ t.mode = .timer ∨ (t.mode = .pulseWidth ∧ t.phase = .counting) := by
  unfold Timer.onInstructionClock
  split <;> simp_all

theorem Timer.passCycles_clocked {w : Nat} {t : Timer w} (h : t.onInstructionClock = true) (c : Nat) :
    t.passCycles true c = ({ t with cnt := (countUp t.pre (c - t.lostCounts) t.cnt).1, blocked := false },
      (countUp t.pre (c - t.lostCounts) t.cnt).2) := by
  simp [Timer.passCycles, h]

theorem Timer.passCycles_unclocked {w : Nat} {t : Timer w} (h : t.onInstructionClock = false) (run : Bool) (c : Nat) :
    t.passCycles run c = (t, false) := by
  simp [Timer.passCycles, h]

/-- In event count mode the levels move the count by their active edges, less the one that a read of the counter costs. -/
theorem Timer.passLevels_eventCount {w : Nat} {t : Timer w} {old : Bool} {levels : List Bool} (h : t.mode = .eventCount) :
    ∃ b, t.passLevels true old levels =
      ({ t with cnt := (countUp t.pre (edgesTo (!t.te) old levels - t.lostCounts) t.cnt).1, blocked := b },
        (countUp t.pre (edgesTo (!t.te) old levels - t.lostCounts) t.cnt).2) := by
  induction hn : edgesTo (!t.te) old levels generalizing t old levels with
  | zero =>
    refine ⟨t.blocked, ?_⟩
    rw [Timer.passLevels_noAwaitedEdge (Timer.awaited_eventCount h) hn, Nat.zero_sub, countUp_zero]
  | succ n ih =>
    obtain ⟨rest, same, -, passed⟩ :=
      Timer.passLevels_firstEdge (Timer.awaited_eventCount h) (n.succ_pos.trans_eq hn.symm) true
    rw [Bool.not_not, Timer.inputEdge_eventCount h] at passed
    obtain ⟨b, counted⟩ := ih (t := t.countEvent.1) h (Nat.succ.inj (same.symm.trans hn))
    have oneLess : n + 1 - t.lostCounts = (1 - t.lostCounts) + n := by have := t.lostCounts_le; omega
    refine ⟨b, ?_⟩
    rw [passed, counted, oneLess, countUp_add]
    rfl

/-- Edges neither count nor overflow in pulse width mode. -/
theorem Timer.inputEdge_pulseWidth {w : Nat} {t : Timer w} (h : t.mode = .pulseWidth) (run pulse old now : Bool) :
    (t.inputEdge run pulse old now).1.mode = .pulseWidth ∧ (t.inputEdge run pulse old now).1.cnt = t.cnt ∧
      (t.inputEdge run pulse old now).2 = false := by
  unfold Timer.inputEdge
  simp only [h]
  split
  · split
    · split <;> exact ⟨h, rfl, rfl⟩
    · split <;> exact ⟨h, rfl, rfl⟩
    · exact ⟨h, rfl, rfl⟩
  · exact ⟨h, rfl, rfl⟩

theorem Timer.passLevels_pulseWidth {w : Nat} {t : Timer w} (h : t.mode = .pulseWidth) (run old : Bool)
    (levels : List Bool) : (t.passLevels run old levels).1.cnt = t.cnt ∧ (t.passLevels run old levels).2 = false := by
  induction levels generalizing t old with
  | nil => exact ⟨rfl, rfl⟩
  | cons level rest ih =>
    obtain ⟨mode, cnt, flag⟩ := Timer.inputEdge_pulseWidth h run true old level
    obtain ⟨cnt', flag'⟩ := ih mode level
    exact ⟨cnt'.trans cnt, by rw [Timer.passLevels, flag, flag']; rfl⟩

/-- A measurement that counts waits for the edge that ends it, which turns the timer off. -/
theorem Timer.passLevels_counting {w : Nat} {t : Timer w} {old : Bool} {levels : List Bool} (h : t.mode = .pulseWidth)
    (hp : t.phase = .counting) :
    (edgesTo (!t.te) old levels = 0 → t.passLevels true old levels = (t, false)) ∧
    (0 < edgesTo (!t.te) old levels →
      t.passLevels true old levels = ({ t with ton := false, phase := .idle }, false)) := by
  refine ⟨fun hnone => Timer.passLevels_noAwaitedEdge (Timer.awaited_counting h hp) hnone true, fun hsome => ?_⟩
  obtain ⟨rest, -, -, passed⟩ := Timer.passLevels_firstEdge (Timer.awaited_counting h hp) hsome true
  rw [passed, Bool.not_not, Timer.inputEdge_counting h hp, Timer.passLevels_noEdge]
  · rfl
  · rw [Timer.awaited_idle (t := { t with ton := false, phase := .idle }) h rfl]
    exact nofun

/-- An armed measurement waits for its start edge, and from there on is one that counts. -/
theorem Timer.passLevels_armed {w : Nat} {t : Timer w} {old : Bool} {levels : List Bool} (h : t.mode = .pulseWidth)
    (hp : t.phase = .armed) :
    (edgesTo t.te old levels = 0 → t.passLevels true old levels = (t, false)) ∧
    (0 < edgesTo t.te old levels → edgesTo (!t.te) old levels = (decide (old = t.te)).toNat →
      t.passLevels true old levels = ({ t with phase := .counting }, false)) ∧
    ((decide (old = t.te)).toNat < edgesTo (!t.te) old levels →
      t.passLevels true old levels = ({ t with ton := false, phase := .idle }, false)) := by
  have started : 0 < edgesTo t.te old levels → ∃ rest,
      edgesTo (!t.te) old levels = (decide (old = t.te)).toNat + edgesTo (!t.te) t.te rest ∧
      t.passLevels true old levels = Timer.passLevels true t.te rest { t with phase := .counting } := by
    intro hsome
    obtain ⟨rest, -, opposite, passed⟩ := Timer.passLevels_firstEdge (Timer.awaited_armed h hp) hsome true
    rw [Timer.inputEdge_armed h hp] at passed
    exact ⟨rest, opposite, by simpa using passed⟩
  refine ⟨fun hnone => Timer.passLevels_noAwaitedEdge (Timer.awaited_armed h hp) hnone true, fun hsome ends => ?_,
    fun ends => ?_⟩
  · obtain ⟨rest, opposite, passed⟩ := started hsome
    rw [passed]
    exact (Timer.passLevels_counting (t := { t with phase := .counting }) h rfl).1 (by simp only; omega)
  · obtain ⟨rest, opposite, passed⟩ := started (by have := edgesTo_not_le t.te old levels; omega)
    rw [passed]
    exact (Timer.passLevels_counting (t := { t with phase := .counting }) h rfl).2 (by simp only; omega)

/-! ### The time of an instruction -/

/-- `c` cycles pass, then the level at the timer's input, which was `old`, takes `levels` in turn, and the blocking of the clock
ends (R201 step 6; log 19). -/
def Timer.timePassed {w : Nat} (run old : Bool) (levels : List Bool) (c : Nat) (t : Timer w) : Timer w × Bool :=
  ({ ((t.passCycles run c).1.passLevels run old levels).1 with blocked := false },
    (t.passCycles run c).2 || ((t.passCycles run c).1.passLevels run old levels).2)

/-- Without edges only the cycles do something. -/
theorem Timer.timePassed_noEdge {w : Nat} {old : Bool} {levels : List Bool} (h : ∀ now, edgesTo now old levels = 0)
    (run : Bool) (c : Nat) (t : Timer w) :
    t.timePassed run old levels c = ({ (t.passCycles run c).1 with blocked := false }, (t.passCycles run c).2) := by
  simp [Timer.timePassed, Timer.passLevels_noEdge fun now _ => h now]

/-- The counts that reach a timer, less the one that a read of the counter costs. -/
theorem Counted.of_lostCounts {w n : Nat} {s t : Timer w} (flag : Bool)
    (h : t.cnt = (countUp s.pre (n - s.lostCounts) s.cnt).1) :
    Counted n s t flag (flag || (countUp s.pre (n - s.lostCounts) s.cnt).2) :=
  ⟨s.lostCounts, s.lostCounts_le, Timer.lostCounts_of_notBlocked, h, rfl⟩

theorem Timer.timePassed_timer {w : Nat} {t : Timer w} (h : t.mode = .timer) (old : Bool) (levels : List Bool) (c : Nat) :
    t.timePassed true old levels c = ({ t with cnt := (countUp t.pre (c - t.lostCounts) t.cnt).1, blocked := false },
      (countUp t.pre (c - t.lostCounts) t.cnt).2) := by
  have unawaited : { t with cnt := (countUp t.pre (c - t.lostCounts) t.cnt).1, blocked := false }.awaited = none :=
    Timer.awaited_timer h
  rw [Timer.timePassed, Timer.passCycles_clocked (t.onInstructionClock_iff.2 (.inl h)),
    Timer.passLevels_noEdge (by simp [unawaited]), Bool.or_false]

theorem Timer.timePassed_eventCount {w : Nat} {t : Timer w} (h : t.mode = .eventCount) (old : Bool) (levels : List Bool)
    (c : Nat) : t.timePassed true old levels c =
      ({ t with cnt := (countUp t.pre (edgesTo (!t.te) old levels - t.lostCounts) t.cnt).1, blocked := false },
        (countUp t.pre (edgesTo (!t.te) old levels - t.lostCounts) t.cnt).2) := by
  have unclocked : t.onInstructionClock = false := by simp [Timer.onInstructionClock, h]
  obtain ⟨b, counted⟩ := Timer.passLevels_eventCount (old := old) (levels := levels) h
  rw [Timer.timePassed, Timer.passCycles_unclocked unclocked, counted, Bool.false_or]

/-- All that happens to a timer in the time of an instruction, mode by mode. -/
theorem Timer.timePassed_passed {w : Nat} (run old : Bool) (levels : List Bool) (c : Nat) (t : Timer w) (flag : Bool) :
    TimerPassed run old levels c t (t.timePassed run old levels c).1 flag (flag || (t.timePassed run old levels c).2) where
  kept := by
    have moved := (t.passCycles_moved run c).trans (Timer.passLevels_moved run old levels _)
    exact ⟨moved.tm1, moved.tm0, moved.te, moved.pre, rfl⟩
  off := by
    rintro rfl
    simp [Timer.timePassed, Timer.passCycles_off, Timer.passLevels_off]
  timer := by
    rintro rfl hm
    rw [Timer.timePassed_timer hm]
    exact ⟨.of_lostCounts flag rfl, rfl, rfl⟩
  events := by
    rintro rfl hm
    rw [Timer.timePassed_eventCount hm]
    exact ⟨.of_lostCounts flag rfl, rfl, rfl⟩
  armed := by
    rintro rfl hm hp
    have unclocked : t.onInstructionClock = false := by simp [Timer.onInstructionClock, hm, hp]
    have moved : (t.passLevels true old levels).1.cnt = t.cnt ∧ (t.passLevels true old levels).2 = false :=
      Timer.passLevels_pulseWidth hm true old levels
    obtain ⟨waits, starts, ends⟩ := Timer.passLevels_armed (old := old) (levels := levels) hm hp
    rw [Timer.timePassed, Timer.passCycles_unclocked unclocked]
    refine ⟨moved.1, by simp [moved.2], fun h => ?_, fun h h' => ?_, fun h => ?_⟩
    · rw [waits h]; exact ⟨hp, rfl⟩
    · rw [starts h h']; exact ⟨rfl, rfl⟩
    · rw [ends h]; exact ⟨rfl, rfl⟩
  counting := by
    rintro rfl hm hp
    have moved := Timer.passLevels_pulseWidth
      (t := { t with cnt := (countUp t.pre (c - t.lostCounts) t.cnt).1, blocked := false }) hm true old levels
    obtain ⟨goesOn, ends⟩ := Timer.passLevels_counting (old := old) (levels := levels)
      (t := { t with cnt := (countUp t.pre (c - t.lostCounts) t.cnt).1, blocked := false }) hm hp
    rw [Timer.timePassed, Timer.passCycles_clocked (t.onInstructionClock_iff.2 (.inr ⟨hm, hp⟩))]
    refine ⟨?_, fun h => ?_, fun h => ?_⟩
    · rw [moved.2, Bool.or_false]
      exact .of_lostCounts flag moved.1
    · rw [goesOn h]; exact ⟨hp, rfl⟩
    · rw [ends h]; exact ⟨rfl, rfl⟩

end Sys2Proof.Machine
end

section
/-! PROOFS. The end of a step (spec/60_exceptions.md R201 step 6): what the levels on the pads and the time of an instruction do to
the state, with the timers as `Timer.timePassed` says (R186, R187, R222 to R228, R236), and the watchdog (R210 to R219). -/

namespace Sys2Proof.Machine

/-! ### Pads -/

/-- The pads take the levels `l` in turn while the machine is awake. -/
theorem State.sampleAll_awake (run0 run1 : Bool) (l : List Pads) (s : State) :
    State.sampleAll run0 run1 true l s = { s with
      tmr0 := (s.tmr0.passLevels run0 s.lastInt (l.map Pads.int)).1
      t0f := s.t0f || (s.tmr0.passLevels run0 s.lastInt (l.map Pads.int)).2
      tmr1 := (s.tmr1.passLevels run1 s.lastTmr1 (l.map s.tmr1Level)).1
      t1f := s.t1f || (s.tmr1.passLevels run1 s.lastTmr1 (l.map s.tmr1Level)).2
      eif := s.eif || decide (0 < edgesTo false s.lastInt (l.map Pads.int))
      pads := l.getLastD s.pads, lastInt := (l.map Pads.int).getLastD s.lastInt
      lastPa := (l.map Pads.pa).getLastD s.lastPa, lastTmr1 := (l.map s.tmr1Level).getLastD s.lastTmr1 } := by
  induction l generalizing s with
  | nil => simp [State.sampleAll, Timer.passLevels, edgesTo]
  | cons p rest ih =>
    have falls : (s.intFalls p || decide (0 < edgesTo false p.int (rest.map Pads.int))) =
        decide (0 < edgesTo false s.lastInt (p.int :: rest.map Pads.int)) := by
      unfold State.intFalls
      cases hold : s.lastInt <;> cases hnow : p.int <;> simp [edgesTo]
    rw [State.sampleAll, ih]
    simp only [List.map_cons, List.getLastD_cons, Timer.passLevels, ← falls, ← Bool.or_assoc]
    rfl

/-! ### The time of an instruction -/

/-- All that time and the pads do to the state by the end of a step, before the watchdog is looked at. -/
theorem State.timePassed_eq (s : State) (inp : Input) (run0 run1 : Bool) :
    s.timePassed inp run0 run1 = { s with
      tmr0 := (s.tmr0.timePassed run0 s.lastInt ((s.pads :: inp.runPads).map Pads.int) s.cyc).1
      t0f := s.t0f || (s.tmr0.timePassed run0 s.lastInt ((s.pads :: inp.runPads).map Pads.int) s.cyc).2
      tmr1 := (s.tmr1.timePassed run1 s.lastTmr1 ((s.pads :: inp.runPads).map s.tmr1Level) s.cyc).1
      t1f := s.t1f || (s.tmr1.timePassed run1 s.lastTmr1 ((s.pads :: inp.runPads).map s.tmr1Level) s.cyc).2
      eif := s.eif || decide (0 < edgesTo false s.lastInt ((s.pads :: inp.runPads).map Pads.int))
      pads := inp.runPads.getLastD s.pads, lastInt := (inp.runPads.getLastD s.pads).int
      lastPa := (inp.runPads.getLastD s.pads).pa, lastTmr1 := s.tmr1Level (inp.runPads.getLastD s.pads)
      elapsed := s.elapsed + s.cyc } := by
  rw [State.timePassed, State.sampleAll_awake]
  simp only [Timer.timePassed, ← Bool.or_assoc, List.map_cons, List.getLastD_cons, ← List.getLastD_map]
  rfl

/-- Where no timer is on in the unused mode, the end of a step is that time and then the watchdog (R221). -/
theorem State.finish_eq {s : State} (h0 : s.tmr0.onInUnusedMode = false) (h1 : s.tmr1.onInUnusedMode = false) (inp : Input)
    (before : State) : s.finish inp before =
      .next ((s.timePassed inp (before.tmr0.ton && s.tmr0.ton) (before.tmr1.ton && s.tmr1.ton)).runWatchdog inp.runOsc) := by
  rw [State.finish, h0, h1]
  rfl

/-! ### The watchdog -/

/-- An enabled watchdog below its limit counts (R214). -/
theorem State.runWatchdog_below {s : State} {osc : Nat} (hon : s.wdtDisabled = false)
    (h : s.wdt + (if s.wdtOnInstructionClock then s.cyc else osc) < s.wdtLimit) :
    s.runWatchdog osc = { s with wdt := s.wdt + (if s.wdtOnInstructionClock then s.cyc else osc) } := by
  rw [State.runWatchdog, if_neg (Bool.eq_false_iff.1 hon), if_neg (Nat.not_le.2 h)]

/-- An enabled watchdog that reaches its limit resets the chip (R215). -/
theorem State.runWatchdog_reached {s : State} {osc : Nat} (hon : s.wdtDisabled = false)
    (h : s.wdtLimit ≤ s.wdt + (if s.wdtOnInstructionClock then s.cyc else osc)) : s.runWatchdog osc = s.watchdogReset := by
  rw [State.runWatchdog, if_neg (Bool.eq_false_iff.1 hon), if_pos h]

/-- The watchdog leaves the pads and the edge detectors alone, its reset too (R53). -/
theorem State.runWatchdog_pads (s : State) (osc : Nat) :
    (s.runWatchdog osc).pads = s.pads ∧ (s.runWatchdog osc).lastInt = s.lastInt ∧
      (s.runWatchdog osc).lastPa = s.lastPa ∧ (s.runWatchdog osc).lastTmr1 = s.lastTmr1 := by
  obtain ⟨h, -⟩ | ⟨h, -⟩ | ⟨n, h, -⟩ := s.runWatchdog_cases osc
  all_goals rw [h]; exact ⟨rfl, rfl, rfl, rfl⟩

@[simp] theorem State.timePassed_pc (s : State) (inp : Input) (run0 run1 : Bool) :
    (s.timePassed inp run0 run1).pc = s.pc := by rw [State.timePassed_eq]

@[simp] theorem State.timePassed_wdts (s : State) (inp : Input) (run0 run1 : Bool) :
    (s.timePassed inp run0 run1).wdts = s.wdts := by rw [State.timePassed_eq]

@[simp] theorem State.timePassed_flagPD (s : State) (inp : Input) (run0 run1 : Bool) :
    (s.timePassed inp run0 run1).flagPD = s.flagPD := by rw [State.timePassed_eq]

@[simp] theorem State.timePassed_flagTO (s : State) (inp : Input) (run0 run1 : Bool) :
    (s.timePassed inp run0 run1).flagTO = s.flagTO := by rw [State.timePassed_eq]

@[simp] theorem State.timePassed_opt (s : State) (inp : Input) (run0 run1 : Bool) :
    (s.timePassed inp run0 run1).opt = s.opt := by rw [State.timePassed_eq]

@[simp] theorem State.timePassed_wdt (s : State) (inp : Input) (run0 run1 : Bool) :
    (s.timePassed inp run0 run1).wdt = s.wdt := by rw [State.timePassed_eq]

@[simp] theorem State.timePassed_cyc (s : State) (inp : Input) (run0 run1 : Bool) :
    (s.timePassed inp run0 run1).cyc = s.cyc := by rw [State.timePassed_eq]

@[simp] theorem State.timePassed_elapsed (s : State) (inp : Input) (run0 run1 : Bool) :
    (s.timePassed inp run0 run1).elapsed = s.elapsed + s.cyc := by rw [State.timePassed_eq]

/-- What the watchdog looks at is as the instruction left it (log 36). -/
theorem State.timePassed_watchdog (s : State) (inp : Input) (run0 run1 : Bool) :
    (s.timePassed inp run0 run1).wdtDisabled = s.wdtDisabled ∧ (s.timePassed inp run0 run1).wdtLimit = s.wdtLimit ∧
      (s.timePassed inp run0 run1).wdt + (if (s.timePassed inp run0 run1).wdtOnInstructionClock then
        (s.timePassed inp run0 run1).cyc else inp.runOsc) = s.wdtAfter inp := by
  simp [State.wdtDisabled, State.wdtLimit, State.wdtOnInstructionClock, State.wdtAfter]

/-- The end of a step with the watchdog disabled. -/
theorem State.finish_of_disabled {s : State} (h0 : s.tmr0.onInUnusedMode = false) (h1 : s.tmr1.onInUnusedMode = false)
    (hoff : s.wdtDisabled = true) (inp : Input) (before : State) : s.finish inp before =
      .next (s.timePassed inp (before.tmr0.ton && s.tmr0.ton) (before.tmr1.ton && s.tmr1.ton)) := by
  rw [State.finish_eq h0 h1, State.runWatchdog_disabled ((s.timePassed_watchdog inp _ _).1.trans hoff)]

/-- The end of a step with the watchdog below its limit. -/
theorem State.finish_of_below {s : State} {inp : Input} (h0 : s.tmr0.onInUnusedMode = false)
    (h1 : s.tmr1.onInUnusedMode = false) (hon : s.wdtDisabled = false) (h : s.wdtAfter inp < s.wdtLimit) (before : State) :
    s.finish inp before = .next
      { s.timePassed inp (before.tmr0.ton && s.tmr0.ton) (before.tmr1.ton && s.tmr1.ton) with wdt := s.wdtAfter inp } := by
  obtain ⟨disabled, limit, after⟩ :=
    s.timePassed_watchdog inp (before.tmr0.ton && s.tmr0.ton) (before.tmr1.ton && s.tmr1.ton)
  rw [State.finish_eq h0 h1, State.runWatchdog_below (disabled.trans hon) (by rw [after, limit]; exact h), after]

/-- The end of a step in which the watchdog reaches its limit. -/
theorem State.finish_of_reached {s : State} {inp : Input} (h0 : s.tmr0.onInUnusedMode = false)
    (h1 : s.tmr1.onInUnusedMode = false) (hon : s.wdtDisabled = false) (h : s.wdtLimit ≤ s.wdtAfter inp) (before : State) :
    s.finish inp before = .next
      (s.timePassed inp (before.tmr0.ton && s.tmr0.ton) (before.tmr1.ton && s.tmr1.ton)).watchdogReset := by
  obtain ⟨disabled, limit, after⟩ :=
    s.timePassed_watchdog inp (before.tmr0.ton && s.tmr0.ton) (before.tmr1.ton && s.tmr1.ton)
  rw [State.finish_eq h0 h1, State.runWatchdog_reached (disabled.trans hon) (by rw [after, limit]; exact h)]

/-- Without a time-out, the watchdog's count is all that the watchdog changes at the end of a step. -/
theorem State.finish_of_noTimeOut {s : State} {inp : Input} (h0 : s.tmr0.onInUnusedMode = false)
    (h1 : s.tmr1.onInUnusedMode = false) (h : s.noTimeOut inp) (before : State) : ∃ n, s.finish inp before = .next
      { s.timePassed inp (before.tmr0.ton && s.tmr0.ton) (before.tmr1.ton && s.tmr1.ton) with wdt := n } := by
  cases hon : s.wdtDisabled with
  | true => exact ⟨_, State.finish_of_disabled h0 h1 hon inp before⟩
  | false => exact ⟨_, State.finish_of_below h0 h1 hon (h.resolve_left (Bool.eq_false_iff.1 hon)) before⟩

/-! ### The reset by a time-out (R215, R255) -/

/-- TMRnC after a chip reset reads 08H (10_state.md R52). -/
theorem Timer.off_controlByte {w : Nat} (t : Timer w) : t.off.controlByte = 0x08#8 := by
  show byteOfBits false false false false true false false false = _
  decide

theorem State.watchdogReset_intcByte (s : State) : s.watchdogReset.intcByte = 0x00#8 := by
  show byteOfBits false false false false false false false false = _
  decide

theorem State.watchdogReset_sets (s : State) : ChipResetSets s.watchdogReset :=
  ⟨rfl, rfl, s.watchdogReset_intcByte, rfl, s.tmr0.off_controlByte, s.tmr1.off_controlByte, rfl, rfl, rfl, rfl, rfl, rfl, rfl,
    rfl, rfl, rfl⟩

theorem State.watchdogReset_keeps (s : State) : ResetKeeps s s.watchdogReset :=
  ⟨rfl, rfl, rfl, rfl, rfl, ⟨rfl, rfl, rfl, rfl⟩, rfl, rfl, rfl, rfl, rfl, rfl, rfl, rfl, rfl, rfl, rfl, fun _ => rfl⟩

/-- The option word plays no part in the time of an instruction. -/
theorem State.timePassed_setOpt (s : State) (o : BitVec 14) (inp : Input) (run0 run1 : Bool) :
    State.timePassed { s with opt := o } inp run0 run1 = { s.timePassed inp run0 run1 with opt := o } := by
  rw [State.timePassed_eq, State.timePassed_eq]
  rfl

/-- A time-out at the end of a step keeps what a reset keeps of `s`, with the timers' counts of that time. -/
theorem State.watchdogReset_timePassed_keeps (s : State) (inp : Input) (run0 run1 : Bool) :
    ResetKeeps
      { s with
        tmr0 := { s.tmr0 with cnt := (s.timePassed inp run0 run1).tmr0.cnt }
        tmr1 := { s.tmr1 with cnt := (s.timePassed inp run0 run1).tmr1.cnt } }
      (s.timePassed inp run0 run1).watchdogReset := by
  have moved := s.timePassed_moved inp run0 run1
  have pre0 := moved.timer0.pre
  have pre1 := moved.timer1.pre
  rw [State.timePassed_eq] at pre0 pre1 ⊢
  exact ⟨rfl, rfl, rfl, rfl, rfl, ⟨rfl, rfl, rfl, rfl⟩, rfl, pre0, rfl, rfl, pre1, rfl, rfl, rfl, rfl, rfl, rfl, fun _ => rfl⟩

/-- Settles O48: the watchdog is looked at after the time has passed, which leaves its count, WDTS and the option word alone. -/
theorem watchdogTimeOut : Obligations.WatchdogTimeOut := by
  refine ⟨?_, fun s before inp h0 h1 => ⟨fun hoff => ?_, fun hon => ?_⟩⟩
  · rintro s osc n rfl
    exact ⟨fun hoff => State.runWatchdog_disabled hoff osc, fun hon h => State.runWatchdog_below hon h,
      fun hon h => ⟨_, State.runWatchdog_reached hon h, s.watchdogReset_sets, s.watchdogReset_keeps, rfl, rfl⟩⟩
  · exact ⟨_, State.finish_of_disabled h0 h1 hoff inp before, by simp, by simp, by simp⟩
  · have disabled : (s.opt ||| 0x2000#14).getLsbD 13 = true := by simp
    have off := State.finish_of_disabled (s := { s with opt := s.opt ||| 0x2000#14 }) h0 h1 disabled inp before
    rw [State.timePassed_setOpt] at off
    by_cases h : s.wdtAfter inp < s.wdtLimit
    · refine ⟨_, _, State.finish_of_below h0 h1 hon h before, off, fun _ => ?_, fun h' => absurd h (Nat.not_lt.2 h')⟩
      rw [← s.timePassed_opt inp (before.tmr0.ton && s.tmr0.ton) (before.tmr1.ton && s.tmr1.ton)]
    · have reached := Nat.not_lt.1 h
      exact ⟨_, _, State.finish_of_reached h0 h1 hon reached before, off, fun h' => absurd h' h, fun _ =>
        ⟨State.watchdogReset_sets _, rfl, s.timePassed_flagPD inp _ _, rfl, rfl,
          s.watchdogReset_timePassed_keeps inp _ _, s.timePassed_elapsed inp _ _⟩⟩

/-! ### The timers and the pads in the time of an instruction -/

/-- A timer without edges at its input: it counts the cycles if it was on before and after, and has the instruction clock. -/
theorem Timer.timePassed_cycles {w : Nat} {old : Bool} {levels : List Bool} (h : ∀ now, edgesTo now old levels = 0)
    (before : Bool) (c : Nat) (t : Timer w) (flag : Bool) :
    ∃ loss, loss ≤ 1 ∧ (t.blocked = false → loss = 0) ∧
      if before = true ∧ t.ton = true ∧ (t.mode = .timer ∨ (t.mode = .pulseWidth ∧ t.phase = .counting)) then
        (t.timePassed (before && t.ton) old levels c).1.cnt = (countUp t.pre (c - loss) t.cnt).1 ∧
        (flag || (t.timePassed (before && t.ton) old levels c).2) = (flag || (countUp t.pre (c - loss) t.cnt).2)
      else (t.timePassed (before && t.ton) old levels c).1.cnt = t.cnt ∧
        (flag || (t.timePassed (before && t.ton) old levels c).2) = flag := by
  refine ⟨t.lostCounts, t.lostCounts_le, Timer.lostCounts_of_notBlocked, ?_⟩
  simp only [← t.onInstructionClock_iff, Timer.timePassed_noEdge h]
  split
  · next counts =>
    obtain ⟨hbefore, hon, clocked⟩ := counts
    rw [hbefore, hon, Bool.and_self, Timer.passCycles_clocked clocked]
    exact ⟨rfl, rfl⟩
  · next counts =>
    have stands : t.passCycles (before && t.ton) c = (t, false) := by
      rw [Timer.passCycles, if_neg]
      simpa [and_assoc] using counts
    rw [stands]
    exact ⟨rfl, Bool.or_false flag⟩

/-- A level that stays brings no edge. -/
theorem edgesTo_same (now level : Bool) : edgesTo now level [level] = 0 := by
  cases now <;> cases level <;> rfl

/-- Settles O57: the levels bring no edge, so that only the cycles are left. -/
theorem timersCountCycles : Obligations.TimersCountCycles := by
  intro s before inp h0 h1 hpads hint htmr1 hwdt
  obtain ⟨n, finished⟩ := State.finish_of_noTimeOut h0 h1 hwdt before
  refine ⟨_, finished, ?_⟩
  rw [State.timePassed_eq, hpads]
  exact ⟨Timer.timePassed_cycles (fun now => hint ▸ edgesTo_same now _) _ _ _ _,
    Timer.timePassed_cycles (fun now => htmr1 ▸ edgesTo_same now _) _ _ _ _⟩

/-- An edge at a timer in event count mode, at the last count and before it. -/
theorem Timer.inputEdge_eventCount_cases {w : Nat} {t : Timer w} (h : t.mode = .eventCount) (hclock : t.blocked = false)
    (pulse now : Bool) :
    (t.inputEdge true pulse (!now) now).1.cnt =
        (if now = !t.te then (if t.cnt = BitVec.allOnes w then t.pre else t.cnt + 1) else t.cnt) ∧
      ((t.inputEdge true pulse (!now) now).2 = true ↔ now = (!t.te) ∧ t.cnt = BitVec.allOnes w) := by
  by_cases hnow : now = !t.te
  · subst hnow
    rw [Bool.not_not, Timer.inputEdge_eventCount h, Timer.countEvent, Timer.lostCounts_of_notBlocked hclock]
    by_cases hlast : t.cnt = BitVec.allOnes w
    · simp [hlast, countUp_succ_allOnes]
    · simp [hlast, countUp_succ_of_ne]
  · have unawaited : ¬ ((!now) ≠ now ∧ t.awaited = some now) := by
      rw [Timer.awaited_eventCount h, Option.some.injEq]
      exact fun e => hnow e.2.symm
    rw [Timer.inputEdge_unawaited unawaited]
    simp [hnow]

/-- The edge away from the start level does nothing to an armed measurement. -/
theorem Timer.inputEdge_armed_away {w : Nat} {t : Timer w} (h : t.mode = .pulseWidth) (hp : t.phase = .armed)
    (run pulse : Bool) : t.inputEdge run pulse t.te (!t.te) = (t, false) :=
  Timer.inputEdge_unawaited (by simp [Timer.awaited_armed h hp]) run pulse

/-- Settles O58: edge by edge, and in the time of an instruction as `Timer.timePassed_passed` says of each timer. -/
theorem padEdges : Obligations.PadEdges := by
  refine ⟨fun s r0 r1 pulse p => ⟨rfl, rfl, rfl, rfl, rfl, rfl, rfl, rfl, rfl⟩,
    fun w t pulse now h hclock => Timer.inputEdge_eventCount_cases h hclock pulse now,
    fun w t h hp => ⟨Timer.inputEdge_armed h hp, Timer.inputEdge_armed_away h hp true true⟩,
    fun w t h hp => Timer.inputEdge_counting h hp,
    fun w t run pulse level => t.inputEdge_level run pulse level,
    fun w t pulse old now => t.inputEdge_off pulse old now, fun s before inp h0 h1 => ?_⟩
  have finished := State.finish_eq h0 h1 inp before
  obtain ⟨pads, lastInt, lastPa, lastTmr1⟩ := State.runWatchdog_pads
    (s.timePassed inp (before.tmr0.ton && s.tmr0.ton) (before.tmr1.ton && s.tmr1.ton)) inp.runOsc
  refine ⟨_, finished, ?_, ?_, ?_, ?_, fun hwdt => ?_⟩
  · rw [pads, State.timePassed_eq]
  · rw [lastInt, State.timePassed_eq]
  · rw [lastPa, State.timePassed_eq]
  · rw [lastTmr1, State.timePassed_eq]; rfl
  · obtain ⟨n, counted⟩ := State.finish_of_noTimeOut h0 h1 hwdt before
    rw [Host.Outcome.next.inj (finished.symm.trans counted), State.timePassed_eq]
    exact ⟨rfl, Timer.timePassed_passed _ _ _ _ _ _, Timer.timePassed_passed _ _ _ _ _ _, rfl⟩

end Sys2Proof.Machine
end

section
/-! PROOFS. HALT (spec/60_exceptions.md R240 to R247): the step of a machine that sleeps on, and the step of one that wakes up,
which goes on from the state that HALT retained. -/

namespace Sys2Proof.Machine

/-! ### A step in HALT (R201 steps 1 and 2) -/

/-- With power and without RES, a machine in HALT makes its step in HALT. -/
theorem State.cycle_of_halted {s : State} (hopt : s.badOption = false) (hpower : s.input.power = false)
    (hres : s.input.res = false) (hhalted : s.halted = true) (e : Encoding) :
    s.cycle e = s.inputTaken.haltedCycle e s.input := by
  simp [State.cycle, hopt, hpower, hres, hhalted]

/-- Without a period of the oscillator the watchdog does not time out in HALT (R219). -/
theorem State.sleepTimeOut_zero {s : State} (h : s.wdtDisabled = true ∨ s.wdt < s.wdtLimit) : s.sleepTimeOut 0 = false := by
  obtain hoff | hbelow := h
  · simp [State.sleepTimeOut, hoff]
  · simp [State.sleepTimeOut, hbelow]

@[simp] theorem State.sleepCount_zero (s : State) : s.sleepCount 0 = 0 := ite_self 0

/-- With no event and no pending request the machine sleeps on. -/
theorem State.haltedCycle_sleeps {s : State} {inp : Input} (h : Invariant s) (hosc : inp.sleepOsc = 0)
    (hwakes : (State.sleepThrough inp.sleepPads s).2 = false) (hpending : s.pendingWakes = false) (e : Encoding) :
    s.haltedCycle e inp = .next (s.slept inp) := by
  simp [State.haltedCycle, h.timer0Mode, h.timer1Mode, hosc, State.sleepTimeOut_zero h.watchdogBelow, hwakes, hpending]

/-- An event wakes the machine, which goes on in the same step (log 3). -/
theorem State.haltedCycle_wakes {s : State} {inp : Input} (h : Invariant s) (hosc : inp.sleepOsc = 0)
    (hwakes : (State.sleepThrough inp.sleepPads s).2 = true) (e : Encoding) :
    s.haltedCycle e inp = (s.slept inp).wakeUp.runCycle e inp := by
  simp [State.haltedCycle, h.timer0Mode, h.timer1Mode, hosc, State.sleepTimeOut_zero h.watchdogBelow, hwakes]

/-- Without a request flag nothing is pending (R244). -/
theorem State.pendingWakes_of_noRequest {s : State} (heif : s.eif = false) (ht0f : s.t0f = false) (ht1f : s.t1f = false) :
    s.pendingWakes = false := by
  simp [State.pendingWakes, heif, ht0f, ht1f]

/-- Settles O52: a quiet step in HALT is sleep with no levels and no periods. -/
theorem sleepsWithoutEvents : Obligations.SleepsWithoutEvents := by
  intro s h hhalted hinputs heif ht0f ht1f
  obtain ⟨taken, quiet⟩ := State.inputTaken_of_quiet hinputs
  calc step s
      = s.haltedCycle specEncoding Input.quiet := by
        rw [step, State.cycle_of_halted h.optionsLegal (by rw [quiet]; rfl) (by rw [quiet]; rfl) hhalted, taken, quiet]
    _ = .next (s.slept Input.quiet) :=
      State.haltedCycle_sleeps h rfl rfl (State.pendingWakes_of_noRequest heif ht0f ht1f) specEncoding
    _ = .next { s with cyc := 0 } := by
      have noCount : s.sleepCount Input.quiet.sleepOsc = 0 := s.sleepCount_zero
      rw [State.slept, noCount]
      rfl

/-! ### What the pads do to a sleeping machine -/

/-- While the machine sleeps, the level at a timer's input does nothing but count in event count mode (R229; log 18). -/
theorem Timer.inputEdge_asleep_cases {w : Nat} (t : Timer w) (run old now : Bool) :
    t.inputEdge run false old now = (t, false) ∨ (t.mode = .eventCount ∧ t.inputEdge run false old now = t.countEvent) := by
  unfold Timer.inputEdge
  split
  · split
    · next hm =>
      split
      · exact .inr ⟨hm, rfl⟩
      · exact .inl rfl
    · split <;> exact .inl rfl
    · exact .inl rfl
  · exact .inl rfl

theorem Timer.inputEdge_asleep {w : Nat} {t : Timer w} (hclock : t.blocked = false) (run old now : Bool) :
    TimerAsleep t (t.inputEdge run false old now).1 := by
  obtain h | ⟨hm, h⟩ := t.inputEdge_asleep_cases run old now
  · rw [h]; exact ⟨rfl, fun _ => rfl⟩
  · rw [h]; exact ⟨Timer.unblocked_of_notBlocked hclock, fun hne => absurd hm hne⟩

/-- The sleeping machine after the pads went to `p`, and awake. -/
def State.wokenBy (s : State) (p : Pads) : State :=
  State.wakeUp { s.inputTaken.samplePads s.tmr0.ton s.tmr1.ton false p with cyc := 0 }

/-- It is the sleeping machine but for what the pads can do, the input taken and the time. -/
theorem State.wokenBy_eq (s : State) (p : Pads) : s.wokenBy p = { s with
    halted := false, eif := s.eif || s.intFalls p
    tmr0 := (s.tmr0Edge s.tmr0.ton false p).1, t0f := s.t0f || (s.tmr0Edge s.tmr0.ton false p).2
    tmr1 := (s.tmr1Edge s.tmr1.ton false p).1, t1f := s.t1f || (s.tmr1Edge s.tmr1.ton false p).2
    pads := p, lastInt := p.int, lastPa := p.pa, lastTmr1 := s.tmr1Level p, inputs := s.inputs.tail, cyc := 0
    elapsed := s.elapsed + s.wakeDelay + (s.wokenBy p).acknowledged.isSome.toNat } := rfl

theorem State.wokenBy_woken {s : State} (hclock0 : s.tmr0.blocked = false) (hclock1 : s.tmr1.blocked = false) (p : Pads) :
    Woken s p (s.wokenBy p) := by
  have moved := s.samplePads_moved s.tmr0.ton s.tmr1.ton false p
  rw [State.wokenBy_eq]
  exact {
    halted := rfl
    pc := rfl
    acc := rfl
    flags := ⟨rfl, rfl, rfl, rfl⟩
    watchdog := ⟨rfl, rfl, rfl, rfl, rfl⟩
    stack := ⟨rfl, rfl, rfl, rfl, rfl⟩
    pointers := ⟨rfl, rfl, rfl, rfl⟩
    tblh := rfl
    lowbuf0 := rfl
    enables := ⟨rfl, rfl, rfl, rfl⟩
    eif := rfl
    t0f := moved.t0f
    t1f := moved.t1f
    timer0 := Timer.inputEdge_asleep hclock0 _ _ _
    timer1 := Timer.inputEdge_asleep hclock1 _ _ _
    ports := ⟨rfl, rfl, rfl, rfl, rfl, rfl, rfl, rfl⟩
    rom := rfl
    opt := rfl
    ram := fun _ => rfl
    pads := ⟨rfl, rfl, rfl⟩
    lastTmr1 := rfl
    draws := ⟨rfl, rfl⟩
    inputs := rfl
    cyc := rfl
    elapsed := rfl }

/-- An awake machine goes on with the entry of an acknowledged source or with its next instruction. -/
theorem ContinuesAs.of_runCycle {s u : State} (h : step s = u.runCycle specEncoding s.input) : ContinuesAs s u where
  entry k hack := ⟨_, u.interruptEntry_taken k, h.trans (State.runCycle_of_acknowledged hack specEncoding s.input)⟩
  instruction _ hack hdecode :=
    h.trans (State.runCycle_of_fetch (e := specEncoding) hack (specEncoding_of_decode hdecode) s.input)

/-! ### The step of a sleeping machine in which the pads go to `p` -/

/-- What the sleeping machine is after the pads went to `p`. -/
theorem SleepsWith.slept {s : State} {p : Pads} (h : SleepsWith s p) : s.inputTaken.slept s.input =
    { s.inputTaken.samplePads s.tmr0.ton s.tmr1.ton false p with cyc := 0 } := by
  rw [State.slept, h.pads, h.osc, State.sleepCount_zero]
  rfl

theorem SleepsWith.sleepThrough {s : State} {p : Pads} (h : SleepsWith s p) :
    (State.sleepThrough s.input.sleepPads s.inputTaken).2 = s.wakesOn p := by
  rw [h.pads]
  exact Bool.or_false _

/-- The pads wake the machine, and the step goes on from the state that HALT retained. -/
theorem SleepsWith.wakes {s : State} {p : Pads} (h : SleepsWith s p) (hwakes : s.wakesOn p = true) :
    Woken s p (s.wokenBy p) ∧ ContinuesAs s (s.wokenBy p) := by
  refine ⟨State.wokenBy_woken h.invariant.timer0Clock h.invariant.timer1Clock p, .of_runCycle ?_⟩
  calc step s
      = s.inputTaken.haltedCycle specEncoding s.input :=
        State.cycle_of_halted h.invariant.optionsLegal h.power h.res h.halted specEncoding
    _ = (s.inputTaken.slept s.input).wakeUp.runCycle specEncoding s.input :=
        State.haltedCycle_wakes (State.inputTaken_invariant h.invariant) h.osc (h.sleepThrough.trans hwakes) specEncoding
    _ = (s.wokenBy p).runCycle specEncoding s.input := by rw [h.slept]; rfl

/-- The pads do not wake the machine, and it sleeps on. -/
theorem SleepsWith.sleeps {s : State} {p : Pads} (h : SleepsWith s p) (hwakes : s.wakesOn p = false)
    (heif : s.eif = false) (ht0f : s.t0f = false) (ht1f : s.t1f = false) :
    step s = .next { s.inputTaken.samplePads s.tmr0.ton s.tmr1.ton false p with cyc := 0 } := by
  calc step s
      = s.inputTaken.haltedCycle specEncoding s.input :=
        State.cycle_of_halted h.invariant.optionsLegal h.power h.res h.halted specEncoding
    _ = .next (s.inputTaken.slept s.input) :=
        State.haltedCycle_sleeps (State.inputTaken_invariant h.invariant) h.osc (h.sleepThrough.trans hwakes)
          (State.pendingWakes_of_noRequest (s := s.inputTaken) heif ht0f ht1f) specEncoding
    _ = _ := by rw [h.slept]

/-! ### Port A (R242, R243) -/

theorem State.wakeMask_getLsbD (s : State) {i : Nat} (hi : i < 8) : s.wakeMask.getLsbD i = s.opt.getLsbD i := by
  simp [State.wakeMask, hi]

/-- A line of port A falls whose option bit is 1. -/
theorem State.portAWakes_iff (s : State) (p : Pads) : s.lastPa &&& ~~~p.pa &&& s.wakeMask ≠ 0 ↔
    ∃ i, i < 8 ∧ s.lastPa.getLsbD i = true ∧ p.pa.getLsbD i = false ∧ s.opt.getLsbD i = true := by
  have line : ∀ i, i < 8 → ((s.lastPa &&& ~~~p.pa &&& s.wakeMask).getLsbD i = true ↔
      s.lastPa.getLsbD i = true ∧ p.pa.getLsbD i = false ∧ s.opt.getLsbD i = true) := fun i hi => by
    rw [BitVec.getLsbD_and, BitVec.getLsbD_and, BitVec.getLsbD_not, s.wakeMask_getLsbD hi, decide_eq_true hi]
    simp [and_assoc]
  constructor
  · intro hline
    by_contra hnone
    refine hline (BitVec.eq_of_getLsbD_eq (y := 0#8) fun i hi => ?_)
    rw [BitVec.getLsbD_zero, Bool.eq_false_iff]
    exact fun hset => hnone ⟨i, hi, (line i hi).1 hset⟩
  · rintro ⟨i, hi, hset⟩ hzero
    exact absurd ((line i hi).2 hset) (by simp [hzero])

/-- The events that wake a sleeping machine (R242). -/
theorem State.wakesOn_iff (s : State) (p : Pads) : s.wakesOn p = true ↔
    (s.lastInt = true ∧ p.int = false) ∨ (s.tmr0Edge s.tmr0.ton false p).2 = true ∨
      (s.tmr1Edge s.tmr1.ton false p).2 = true ∨
      ∃ i, i < 8 ∧ s.lastPa.getLsbD i = true ∧ p.pa.getLsbD i = false ∧ s.opt.getLsbD i = true := by
  rw [← s.portAWakes_iff p]
  simp [State.wakesOn, State.intFalls, or_assoc]

/-- A timer that is off is no event. -/
theorem State.tmr0Edge_off {s : State} (h : s.tmr0.ton = false) (p : Pads) : (s.tmr0Edge s.tmr0.ton false p).2 = false := by
  rw [State.tmr0Edge, h, Timer.inputEdge_off]

theorem State.tmr1Edge_off {s : State} (h : s.tmr1.ton = false) (p : Pads) : (s.tmr1Edge s.tmr1.ton false p).2 = false := by
  rw [State.tmr1Edge, h, Timer.inputEdge_off]

/-- Settles O53: a line with its option bit is one of the events, and without one of them the machine sleeps on. -/
theorem portAWakeUp : Obligations.PortAWakeUp := by
  intro s p h
  obtain ⟨hPD, hTO⟩ := h.invariant.haltFlags h.halted
  refine ⟨fun hfalls => ?_, fun hmasked hint hoff0 hoff1 heif ht0f ht1f => ?_⟩
  · obtain ⟨woken, goesOn⟩ := h.wakes ((s.wakesOn_iff p).2 (.inr (.inr (.inr hfalls))))
    exact ⟨_, woken, goesOn, woken.watchdog.flagTO.trans hTO, woken.watchdog.flagPD.trans hPD⟩
  · have noLine : ¬ ∃ i, i < 8 ∧ s.lastPa.getLsbD i = true ∧ p.pa.getLsbD i = false ∧ s.opt.getLsbD i = true :=
      fun ⟨i, hi, hlast, hnow, hopt⟩ => Bool.false_ne_true ((hmasked i hi hlast hnow).symm.trans hopt)
    have asleep : s.wakesOn p = false := by
      rw [Bool.eq_false_iff, Ne, s.wakesOn_iff, State.tmr0Edge_off hoff0, State.tmr1Edge_off hoff1]
      simp [hint, noLine]
    exact ⟨_, h.sleeps asleep heif ht0f ht1f, h.halted, rfl, rfl, hTO, hPD⟩

/-! ### INT (R186, R242, R244) -/

/-- An external interrupt that can be acknowledged comes first (R191). -/
theorem State.acknowledged_external {s : State} (hemi : s.emi = true) (heei : s.eei = true) (heif : s.eif = true)
    (hsp : s.sp ≠ 4) : s.acknowledged = some .external :=
  if_pos (s.canAcknowledge_external.2 ⟨hemi, heei, heif, s.sp_ne_full_iff.1 hsp⟩)

/-- What keeps every source from being acknowledged (R189). -/
theorem State.acknowledged_none {s : State} (h : s.emi = false ∨ s.sp = 4 ∨
    (s.eei = false ∧ (s.et0i = false ∨ s.t0f = false) ∧ (s.et1i = false ∨ s.t1f = false))) : s.acknowledged = none := by
  obtain hemi | hfull | ⟨heei, h0, h1⟩ := h
  · exact State.acknowledged_of_noEmi hemi
  · rw [State.acknowledged_eq, if_neg fun room => room.2 hfull]
  · refine s.acknowledged_eq_none_iff.2 fun k => ?_
    cases k
    case external => simp [State.canAcknowledge, heei]
    case timer0 => obtain h | h := h0 <;> simp [State.canAcknowledge, h]
    case timer1 => obtain h | h := h1 <;> simp [State.canAcknowledge, h]

/-- Settles O54: the edge sets EIF in the state that goes on, whose enables and stack are those that HALT retained. -/
theorem externalInterruptWakeUp : Obligations.ExternalInterruptWakeUp := by
  intro s p h hlast hint
  obtain ⟨woken, goesOn⟩ := h.wakes ((s.wakesOn_iff p).2 (.inl ⟨hlast, hint⟩))
  generalize s.wokenBy p = u at woken goesOn
  obtain ⟨hemi, heei, het0i, het1i⟩ := woken.enables
  have heif : u.eif = true := by simp [woken.eif, hlast, hint]
  refine ⟨u, woken, goesOn, heif, fun emi eei room => ?_, fun held => ?_⟩
  · have hack : u.acknowledged = some .external :=
      State.acknowledged_external (hemi.trans emi) (heei.trans eei) heif (woken.stack.sp ▸ room)
    obtain ⟨t, taken, hstep⟩ := goesOn.entry .external hack
    refine ⟨hack, t, taken, hstep, ?_⟩
    rw [← woken.pc]
    exact taken.pushed.of_sameStack woken.stack ⟨rfl, rfl, rfl, rfl, rfl⟩
  · have hack : u.acknowledged = none := by
      refine State.acknowledged_none ?_
      rw [hemi, heei, het0i, het1i, woken.stack.sp]
      exact held
    refine ⟨hack, fun i hdecode => goesOn.instruction i hack ?_⟩
    rw [State.progRead, woken.rom, woken.pc]
    exact hdecode

/-! ### Event counters (R223, R225, R229) -/

/-- An active edge at the last count reloads the counter and overflows (R225). -/
theorem Timer.inputEdge_overflows {w : Nat} {t : Timer w} {old now : Bool} (hon : t.ton = true) (hm : t.mode = .eventCount)
    (hclock : t.blocked = false) (hold : old = t.te) (hnow : now = !t.te) (hlast : t.cnt = BitVec.allOnes w) :
    (t.inputEdge t.ton false old now).1.cnt = t.pre ∧ (t.inputEdge t.ton false old now).2 = true := by
  obtain ⟨cnt, overflow⟩ := Timer.inputEdge_eventCount_cases hm hclock false now
  rw [hnow, Bool.not_not] at cnt overflow
  rw [hon, hold, hnow, cnt, overflow, if_pos rfl, if_pos hlast]
  exact ⟨rfl, rfl, hlast⟩

/-- An active edge before the last count is one count, without an overflow. -/
theorem Timer.inputEdge_counts {w : Nat} {t : Timer w} {old now : Bool} (hon : t.ton = true) (hm : t.mode = .eventCount)
    (hclock : t.blocked = false) (hold : old = t.te) (hnow : now = !t.te) (hbefore : t.cnt ≠ BitVec.allOnes w) :
    (t.inputEdge t.ton false old now).1.cnt = t.cnt + 1 ∧ (t.inputEdge t.ton false old now).2 = false := by
  obtain ⟨cnt, overflow⟩ := Timer.inputEdge_eventCount_cases hm hclock false now
  rw [hnow, Bool.not_not] at cnt overflow
  rw [hon, hold, hnow, cnt, Bool.eq_false_iff, Ne, overflow, if_pos rfl, if_neg hbefore]
  exact ⟨rfl, fun e => hbefore e.2⟩

/-- Settles O55: an overflow sets its request flag and is an event of HALT; a mere count is none. -/
theorem eventOverflowWakeUp : Obligations.EventOverflowWakeUp := by
  intro s p h
  refine ⟨fun hon hm hold hnow hlast => ?_, fun hon hm hold hnow hlast => ?_,
    fun hon hm hte hold hnow hbefore hpa hoff heif ht0f ht1f => ?_⟩
  · obtain ⟨reloaded, overflow⟩ := Timer.inputEdge_overflows hon hm h.invariant.timer0Clock hold hnow hlast
    obtain ⟨woken, goesOn⟩ := h.wakes ((s.wakesOn_iff p).2 (.inr (.inl overflow)))
    exact ⟨_, woken, goesOn, Bool.or_eq_true_iff.2 (.inr overflow), reloaded⟩
  · obtain ⟨reloaded, overflow⟩ := Timer.inputEdge_overflows hon hm h.invariant.timer1Clock hold hnow hlast
    obtain ⟨woken, goesOn⟩ := h.wakes ((s.wakesOn_iff p).2 (.inr (.inr (.inl overflow))))
    exact ⟨_, woken, goesOn, Bool.or_eq_true_iff.2 (.inr overflow), reloaded⟩
  · obtain ⟨counted, noOverflow⟩ := Timer.inputEdge_counts hon hm h.invariant.timer0Clock (hold.trans hte.symm)
      (hnow.trans (by rw [hte]; rfl)) hbefore
    have noEdge : (s.tmr0Edge s.tmr0.ton false p).2 = false := noOverflow
    have noLine : ¬ ∃ i, i < 8 ∧ s.lastPa.getLsbD i = true ∧ p.pa.getLsbD i = false ∧ s.opt.getLsbD i = true :=
      fun ⟨i, _, hline, hnow, _⟩ => Bool.false_ne_true (hnow.symm.trans (hpa ▸ hline))
    have asleep : s.wakesOn p = false := by
      rw [Bool.eq_false_iff, Ne, s.wakesOn_iff, noEdge, State.tmr1Edge_off hoff, hold]
      simp [noLine]
    exact ⟨_, h.sleeps asleep heif ht0f ht1f, h.halted, rfl, counted, Bool.or_eq_false_iff.2 ⟨ht0f, noOverflow⟩⟩

end Sys2Proof.Machine
end

section
/-! PROOFS. The PROM programming and verification port (spec/70_reset_and_hazards.md R273, R274): nibbles put together and taken
apart, then what an address phase, the programming of a word and its verification do to the port. -/

namespace Sys2Proof.Machine

/-! ### Nibbles -/

theorem lowNibble_getLsbD {j : Nat} (hj : j < 16) : (0xF : BitVec 16).getLsbD j = decide (j < 4) := by
  interval_cases j <;> rfl

/-- A nibble at place `k` is read at the bits 4k to 4k+3; every other bit is the old one. -/
theorem withNibble_getLsbD (v : BitVec 16) (k : Nat) (nibble : BitVec 4) {i : Nat} (hi : i < 16) :
    (withNibble v k nibble).getLsbD i =
      if 4 * k ≤ i ∧ i < 4 * k + 4 then nibble.getLsbD (i - 4 * k) else v.getLsbD i := by
  rw [withNibble, BitVec.getLsbD_or, BitVec.getLsbD_and, BitVec.getLsbD_not, BitVec.getLsbD_shiftLeft,
    BitVec.getLsbD_shiftLeft, BitVec.getLsbD_setWidth, lowNibble_getLsbD (show i - 4 * k < 16 by omega)]
  by_cases below : i < 4 * k
  · simp [hi, below, Nat.not_le.2 below]
  · by_cases inside : i < 4 * k + 4
    · simp [hi, below, Nat.not_lt.1 below, inside, show i - 4 * k < 4 by omega, show i - 4 * k < 16 by omega]
    · have beyond : 4 ≤ i - 4 * k := by omega
      simp [hi, below, inside, Nat.not_lt.2 beyond, nibble.getLsbD_of_ge _ beyond]

/-- The three nibbles of an address, clocked in over any old address, give the address. -/
theorem addr_of_nibbles (old a : Addr) :
    (withNibble ((withNibble ((withNibble (old.setWidth 16) 0 (a.extractLsb' 0 4)).setWidth 12 |>.setWidth 16) 1
      (a.extractLsb' 4 4)).setWidth 12 |>.setWidth 16) 2 (a.extractLsb' 8 4)).setWidth 12 = a := by
  refine BitVec.eq_of_getLsbD_eq fun i hi => ?_
  have hi16 : i < 16 := by omega
  simp only [BitVec.getLsbD_setWidth, withNibble_getLsbD _ _ _ hi16, BitVec.getLsbD_extractLsb', hi, hi16]
  interval_cases i <;> rfl

/-- The four nibbles of a word, clocked in over any old data, give the word. -/
theorem word_of_nibbles (old : BitVec 16) (w : Word) :
    (withNibble (withNibble (withNibble (withNibble old 0 (w.extractLsb' 0 4)) 1 (w.extractLsb' 4 4)) 2
      (w.extractLsb' 8 4)) 3 (0#1 ++ w.extractLsb' 12 3)).setWidth 15 = w := by
  refine BitVec.eq_of_getLsbD_eq fun i hi => ?_
  have hi16 : i < 16 := by omega
  simp only [BitVec.getLsbD_setWidth, withNibble_getLsbD _ _ _ hi16, BitVec.getLsbD_extractLsb', BitVec.getLsbD_append, hi]
  interval_cases i <;> rfl

/-- Nibble `k` that a verification puts out for the word `w`. -/
def verifiedNibble (w : Word) (k : Nat) : BitVec 4 := (w.setWidth 16 : BitVec 16).extractLsb' (4 * k) 4

/-- The nibbles put out are those the word is programmed with, bit 15 as 0. -/
theorem verifiedNibbles_eq (w : Word) : [0, 1, 2, 3].map (verifiedNibble w) = dataNibbles w := by
  have low : ∀ k, k < 3 → verifiedNibble w k = w.extractLsb' (4 * k) 4 := fun k hk => by
    refine BitVec.eq_of_getLsbD_eq fun i hi => ?_
    simp [verifiedNibble, hi, show 4 * k + i < 16 by omega]
  have top : verifiedNibble w 3 = 0#1 ++ w.extractLsb' 12 3 := by
    refine BitVec.eq_of_getLsbD_eq fun i hi => ?_
    rw [verifiedNibble, BitVec.getLsbD_extractLsb', BitVec.getLsbD_setWidth, BitVec.getLsbD_append,
      BitVec.getLsbD_extractLsb']
    by_cases stored : i < 3
    · simp [hi, stored, show 4 * 3 + i < 16 by omega]
    · obtain rfl : i = 3 := by omega
      exact BitVec.getLsbD_of_ge w 15 (le_refl 15)
  simp [dataNibbles, low, top]

/-! ### The phases of a cycle (R273) -/

theorem PromPort.clocks_append (access : PromAccess) (l m : List (BitVec 4)) (p : PromPort) :
    PromPort.clocks access (l ++ m) p =
      ((PromPort.clocks access m (PromPort.clocks access l p).1).1,
        (PromPort.clocks access l p).2 ++ (PromPort.clocks access m (PromPort.clocks access l p).1).2) := by
  induction l generalizing p with
  | nil => rfl
  | cons ad rest ih => rw [List.cons_append, PromPort.clocks, PromPort.clocks, ih]; rfl

/-- The port when the address phase of a program PROM cycle is over. -/
def PromPort.addressed (p : PromPort) (a : Addr) : PromPort :=
  { p with edges := 4, addr := a, tsel := false, osel := false, data := 0 }

/-- The address phase puts nothing out and ends with the address taken. -/
theorem PromPort.clocks_address (p : PromPort) (access : PromAccess) (a : Addr) :
    p.deselect.clocks access (addressNibbles a false false) = (p.addressed a, [none, none, none, none]) := by
  rw [PromPort.addressed]
  conv_rhs => rw [← addr_of_nibbles p.addr a]
  rfl

/-- The data phase of a programming cycle stores the word at the address. -/
theorem PromPort.clocks_programData (p : PromPort) (a : Addr) (w : Word) :
    ((p.addressed a).clocks .program (dataNibbles w)).1 =
      { p.addressed a with rom := Memory.romSet p.rom a w } := by
  conv_rhs => rw [← word_of_nibbles (p.addressed a).data w]
  rfl

/-- The data phase of a verification puts out the selected word, and the address goes on by one. -/
theorem PromPort.clocks_verifyData (p : PromPort) (a : Addr) {w : Word} (hw : (p.addressed a).selected = some w) :
    (p.addressed a).clocks .verify [0, 0, 0, 0] = ({ p.addressed a with addr := a + 1 }, (dataNibbles w).map some) := by
  have out : ∀ k, ((p.addressed a).selected.map fun v => verifiedNibble v k) = some (verifiedNibble w k) := fun k => by
    rw [hw]; rfl
  rw [← verifiedNibbles_eq, List.map_map]
  calc (p.addressed a).clocks .verify [0, 0, 0, 0]
      = ({ p.addressed a with addr := a + 1 },
          [0, 1, 2, 3].map fun k => (p.addressed a).selected.map fun v => verifiedNibble v k) := rfl
    _ = _ := by simp only [out]; rfl

/-! ### A programming cycle and a verification cycle -/

theorem PromPort.program_eq (p : PromPort) (a : Addr) (w : Word) :
    (p.deselect.clocks .program (addressNibbles a false false ++ dataNibbles w)).1 =
      { p.addressed a with rom := Memory.romSet p.rom a w } := by
  rw [PromPort.clocks_append, PromPort.clocks_address]
  exact p.clocks_programData a w

/-- What an address phase selects in program PROM; ones under LOCK = 1 (R274). -/
theorem PromPort.addressed_selected (p : PromPort) (a : Addr) :
    (p.addressed a).selected = some (if p.lock then 0x7FFF#15 else Memory.romWord p.rom a) := rfl

theorem PromPort.verify_eq (p : PromPort) (a : Addr) :
    p.deselect.clocks .verify (addressNibbles a false false ++ [0, 0, 0, 0]) =
      ({ p.addressed a with addr := a + 1 }, [none, none, none, none] ++
        (dataNibbles (if p.lock then 0x7FFF#15 else Memory.romWord p.rom a)).map some) := by
  rw [PromPort.clocks_append, PromPort.clocks_address, p.clocks_verifyData a (p.addressed_selected a)]

/-- Settles O60: programming is a write of program memory at the address clocked in, and verifying reads there. -/
theorem programAndVerify : Obligations.ProgramAndVerify := by
  intro p q r a w out1 out2 hwf hprogram hverify
  obtain rfl : q = { p.addressed a with rom := Memory.romSet p.rom a w } :=
    (congrArg Prod.fst hprogram).symm.trans (p.program_eq a w)
  rw [PromPort.verify_eq] at hverify
  obtain ⟨rfl, rfl⟩ := Prod.mk.inj hverify
  have same : Memory.romWord (Memory.romSet p.rom a w) a = w := Memory.romWord_romSet_same a w hwf
  refine ⟨same, fun b hb => Memory.romWord_romSet_other w hb, rfl, rfl, rfl, ?_⟩
  show (dataNibbles (if p.lock then _ else Memory.romWord (Memory.romSet p.rom a w) a)).map some = _
  rw [same]

end Sys2Proof.Machine
end

section
/-! PROOFS. The resets (spec/70_reset_and_hazards.md R251 to R259; the table of spec/10_state.md R52): what each of them sets and
keeps, and the steps in which power-on, RES and the warm reset come. -/

namespace Sys2Proof.Machine

/-! ### The state after reset (R254) -/

/-- Settles O9: the timers are off, the watchdog is cleared, and the memories are empty. -/
theorem resetHasInvariant : Obligations.ResetHasInvariant :=
  .of_timersOff ⟨rfl, rfl, rfl, fun _ => rfl, fun _ => rfl, nofun, Nat.zero_lt_one⟩ rfl rfl rfl rfl rfl

/-- A chip reset changes nothing of the state after reset that `ChipResetSets` speaks of. -/
theorem State.reset_sets : ChipResetSets State.reset := { State.reset.watchdogReset_sets with }

/-- Settles O10: the values are those of the reset table. -/
theorem resetState : Obligations.ResetState :=
  ⟨State.reset_sets, rfl, rfl, rfl, rfl, rfl, rfl, rfl, rfl, rfl⟩

/-! ### What a reset sets and keeps, beside the pads and the coming inputs -/

theorem ChipResetSets.padsBecome {s : State} (h : ChipResetSets s) (l : List Pads) : ChipResetSets (s.padsBecome l) :=
  { h with }

theorem ResetKeeps.padsBecome {s t : State} (h : ResetKeeps s t) (l : List Pads) : ResetKeeps s (t.padsBecome l) :=
  { h with flags := { h.flags with } }

theorem ResetKeeps.of_inputTaken {s t : State} (h : ResetKeeps s.inputTaken t) : ResetKeeps s t :=
  { h with flags := { h.flags with } }

/-! ### RES (R256, R257) -/

/-- RES is the chip reset, in which only TO and PD depend on HALT. -/
theorem State.resReset_eq (s : State) : s.resReset = { s.chipReset with
    flagTO := if s.halted then false else s.flagTO, flagPD := if s.halted then true else s.flagPD } := by
  unfold State.resReset
  split <;> rfl

theorem State.resReset_sets (s : State) : ChipResetSets s.resReset := by
  rw [State.resReset_eq]
  exact { s.watchdogReset_sets with }

theorem State.resReset_keeps (s : State) : ResetKeeps s s.resReset := by
  rw [State.resReset_eq]
  exact { s.watchdogReset_keeps with flags := { s.watchdogReset_keeps.flags with } }

/-- RES leaves the pads, the edge detectors and the time alone (R53, R251). -/
theorem State.resReset_devices (s : State) :
    s.resReset.pads = s.pads ∧ s.resReset.lastInt = s.lastInt ∧ s.resReset.lastPa = s.lastPa ∧
      s.resReset.lastTmr1 = s.lastTmr1 ∧ s.resReset.elapsed = s.elapsed := by
  rw [State.resReset_eq]
  exact ⟨rfl, rfl, rfl, rfl, rfl⟩

theorem State.resReset_flags_of_awake {s : State} (h : s.halted = false) :
    s.resReset.flagTO = s.flagTO ∧ s.resReset.flagPD = s.flagPD := by
  simp [State.resReset_eq, h]

theorem State.resReset_flags_of_halted {s : State} (h : s.halted = true) :
    s.resReset.flagTO = false ∧ s.resReset.flagPD = true := by
  simp [State.resReset_eq, h]

/-- RES takes the whole step (R201; log 3). -/
theorem State.cycle_of_res {s : State} (hopt : s.badOption = false) (hpower : s.input.power = false)
    (hres : s.input.res = true) (e : Encoding) :
    s.cycle e = .next (s.inputTaken.resReset.padsBecome s.input.runPads) := by
  simp [State.cycle, hopt, hpower, hres]

/-- Settles O47: the step is the reset by RES, and then the pads are the environment's. -/
theorem resReset : Obligations.ResReset := by
  intro s hopt hpower hres
  obtain ⟨pads, lastInt, lastPa, lastTmr1, elapsed⟩ := s.inputTaken.resReset_devices
  refine ⟨_, State.cycle_of_res hopt hpower hres specEncoding, s.inputTaken.resReset_sets.padsBecome _,
    (s.inputTaken.resReset_keeps.padsBecome _).of_inputTaken, elapsed,
    State.resReset_flags_of_awake (s := s.inputTaken), State.resReset_flags_of_halted (s := s.inputTaken), ?_,
    lastInt, lastPa, lastTmr1⟩
  rw [State.padsBecome_pads, pads]
  rfl

/-! ### The warm reset (R258) -/

theorem State.warmReset_keeps (s : State) : ResetKeeps s s.warmReset :=
  ⟨rfl, rfl, rfl, rfl, rfl, ⟨rfl, rfl, rfl, rfl⟩, rfl, rfl, rfl, rfl, rfl, rfl, rfl, rfl, rfl, rfl, rfl, fun _ => rfl⟩

/-- A time-out of the watchdog comes before every other event of HALT (R201 step 2, R216). -/
theorem State.haltedCycle_timesOut {s : State} {inp : Input} (h : Invariant s)
    (htime : s.sleepTimeOut inp.sleepOsc = true) (e : Encoding) :
    s.haltedCycle e inp = .next (State.sleepThrough inp.sleepPads s).1.warmReset := by
  simp [State.haltedCycle, h.timer0Mode, h.timer1Mode, htime]

/-- Settles O49: on its oscillator the watchdog times out at its limit, and the warm reset keeps the registers. -/
theorem warmReset : Obligations.WarmReset := by
  intro s h hpower hres hhalted hpads hon hosc hreached
  have timesOut : s.inputTaken.sleepTimeOut s.input.sleepOsc = true :=
    (State.sleepTimeOut_of_oscillator hon hosc _).trans (decide_eq_true hreached)
  have hstep : step s = .next s.inputTaken.warmReset := by
    calc step s
      _ = s.inputTaken.haltedCycle specEncoding s.input :=
        State.cycle_of_halted h.optionsLegal hpower hres hhalted specEncoding
      _ = .next (State.sleepThrough s.input.sleepPads s.inputTaken).1.warmReset :=
        State.haltedCycle_timesOut (State.inputTaken_invariant h) timesOut specEncoding
      _ = .next s.inputTaken.warmReset := by rw [hpads]; rfl
  exact ⟨_, hstep, rfl, rfl, rfl, rfl, rfl, rfl, s.inputTaken.warmReset_keeps.of_inputTaken, rfl,
    ⟨rfl, rfl, rfl, rfl, rfl, rfl, rfl⟩, ⟨rfl, rfl, rfl, rfl, rfl, rfl, rfl⟩, ⟨rfl, rfl, rfl, rfl, rfl, rfl, rfl⟩,
    ⟨rfl, rfl, rfl, rfl, rfl, rfl, rfl, rfl⟩⟩

/-! ### Power-on (R254) -/

/-- What power-on leaves unknown is no part of what a chip reset sets. -/
theorem State.powerOn_sets (s : State) : ChipResetSets s.powerOn := { s.watchdogReset_sets with }

/-- RAM holds the free values of this power-on (R53, R54; log 5). -/
theorem State.powerOn_ramByte (s : State) (a : Nat) : s.powerOn.ramByte a = Config.powerOnRam s.draws a := rfl

/-- A power cycle takes the whole step (log 3). -/
theorem State.cycle_of_power {s : State} (hopt : s.badOption = false) (hpower : s.input.power = true) (e : Encoding) :
    s.cycle e = .next (s.inputTaken.powerOn.padsBecome s.input.runPads) := by
  simp [State.cycle, hopt, hpower]

/-- Settles O50: the step is the power-on reset, and then the pads are the environment's. -/
theorem powerOnReset : Obligations.PowerOnReset := by
  intro s hopt hpower
  exact ⟨_, State.cycle_of_power hopt hpower specEncoding, s.inputTaken.powerOn_sets.padsBecome _, rfl, rfl, rfl, rfl, rfl,
    s.inputTaken.powerOn_ramByte, rfl, rfl⟩

end Sys2Proof.Machine
end
